-- ==== Sys2Proof/Word.lean ====
section
/-! DEFINITION. The byte of the serial link, the 32-bit counts, and the roundings of the scope file's section 6.2. -/

namespace Sys2Proof

/-- One byte of a link frame (The Serial Link, R150: eight data bits). -/
abbrev Byte := BitVec 8

/-- The cycle number and the epoch number: 32-bit counts that wrap from 4,294,967,295 to 0 (scope 6.1). -/
abbrev Count32 := BitVec 32

/-- A converter code, 12-bit offset binary, 0..4095 (scope 6.1, R15). -/
abbrev Code := BitVec 12

/-- Round half up, for non-negative quantities: floor((2x + y) / (2y)) (scope 6.2). -/
def roundHalfUp (x y : Nat) : Nat := (2 * x + y) / (2 * y)

/-- Round half away from zero: |x| / y rounded half up, with the sign of x (scope 6.2). -/
def roundHalfAway (x : Int) (y : Nat) : Int :=
  if 0 ≤ x then (roundHalfUp x.natAbs y : Int) else -(roundHalfUp x.natAbs y : Int)

/-- The least integer not below the exact quotient (scope 6.2). -/
def ceilDiv (x y : Nat) : Nat := (x + y - 1) / y

/-- Clamping to a range (scope 6.2). -/
def clampInt (lo hi x : Int) : Int := if x < lo then lo else if hi < x then hi else x

end Sys2Proof
end

