-- ==== Sys2Proof/Machine/Names.lean ====
section
/-! DEFINITION. Enumerations that commands and state share: the FNOM strap, the parts of a completion, the request kinds. -/

namespace Sys2Proof

/-- The FNOM strap: the nominal mains frequency (R1; codes 0 and 1 in section 11.2). -/
inductive Fnom where
  | hz50
  | hz60
deriving DecidableEq, Repr

/-- The parts of one cycle completion, and of the epoch completion that may fall on it, that different
blocks take on their own state and whose order the manual leaves open (R18, R49, R123, R172, R12). -/
inductive CompletionPart where
  /-- the Channel Conditioner takes what it has not yet taken of the record (R22 to R25, R36) -/
  | entries
  /-- the Channel Conditioner takes the next channel entry of the record alone (R22, R165) -/
  | nextEntry
  /-- Capture Memory takes the STEP triggers of the completion (R30, R31) -/
  | steps
  /-- Capture Memory takes the next of these STEP triggers alone (R31, R123) -/
  | nextStep
  /-- Capture Memory takes the completed frame (R116 to R118, R126) -/
  | frame
  /-- the Cycle Tracker counts the completion and, from its state then, gives the next cycle start (R8, R11) -/
  | count
  /-- the Sample Scanner takes the cycle start that the tracker gave (R12, R18) -/
  | start
  /-- the Transformer Table forms the effective current of slot t (R43 to R46) -/
  | current (t : Fin 8)
  /-- the Thermal and Exposure Unit takes slot t through its thermal step (R57) -/
  | thermal (t : Fin 8)
  /-- the Alarm Evaluator grades slot t, and hands a level change on (R71, R81) -/
  | grade (t : Fin 8)
  /-- the Annunciator takes the level change of slot t, if there is one (R85, R92 to R94) -/
  | annunciate (t : Fin 8)
  /-- Capture Memory takes the LEVEL triggers of the epoch completion (R87) -/
  | levels
  /-- Capture Memory takes the next of these LEVEL triggers alone (R87, R123) -/
  | nextLevel
  /-- the Settings Store takes the epoch completion (R145) -/
  | settings
deriving DecidableEq, Repr

end Sys2Proof

namespace Sys2Proof.Machine

/-- The 26 request kinds of section 11.3 (R174). -/
inductive RequestKind where
  | status | readTracker | readChannel | readTransformer | fetchNotice
  | setGeneral | setChannel | setTransformer | setCurve | setMonitors | setContact | setAnnunciator
  | readSettings | commit | discard
  | acknowledge | silence | clearExposure | presetThermal | selfCheck
  | captureTrigger | captureHold | captureRelease | captureRead | captureInfo
  | restart
deriving DecidableEq, Repr

end Sys2Proof.Machine
end

