-- ==== Sys2Proof/Syntax.lean ====
section
/-! DEFINITION. The commands of the Nelsar 1608: one constructor of `Instr` for each row of spec/opcode_table.json.
A timed or field event carries what its pins show at that instant; a request carries the rest of its link frame. -/

namespace Sys2Proof

/-- One constructor per row of spec/opcode_table.json, in the table's order. In every request row `tag` and
`payload` are the TAG and the payload of its request frame (R151); wherever a reply can become ready, `hrdy`
is the level that the transmitter's sample of HRDY would find at that instant (R160). -/
inductive Instr where
  /-- R1: power-on reset ends with these levels on the RATE and FNOM straps. -/
  | powerOnReset (rate : BitVec 2) (fnom : Fnom)
  /-- R2: the 8,000th tick of STARTING has passed. -/
  | startingEnd
  /-- R3: ZREF changes from low to high. -/
  | zrefRisingCrossing
  /-- R4: the ticks since the last crossing reach 25,000. -/
  | missingCrossingExpiry
  /-- R13: the next sample slot of the cycle falls. -/
  | sampleSlot
  /-- R16: the conversion in hand ends; its held input was `microvolts` µV (R15). -/
  | conversionComplete (microvolts : Int)
  /-- R18: P_s ticks after the cycle start. `order` is the order in which its parts are taken; if `whole`, the parts
  it does not name follow, and otherwise they wait for the rest of this event, so that an event of the same
  instant can fall between two parts. -/
  | cycleCompletion (order : List CompletionPart) (whole : Bool) (hrdy : Bool)
  /-- R25: the epoch cycle counter has reached EPOCH_CYCLES. `order` and `whole` as above. -/
  | epochCompletion (order : List CompletionPart) (whole : Bool) (hrdy : Bool)
  /-- R101: 125,000 ticks since the last beat; ACKB shows `ackb`. -/
  | beatExpiry (ackb : Bool)
  /-- R154: a byte's stop bit is sampled (`stopHigh` false is a framing error, R150); `startedEarly` says that
  the byte's start bit fell in STARTING (R1). -/
  | byteTaken (b : Byte) (stopHigh : Bool) (startedEarly : Bool)
  /-- R155: 20,000 ticks since the last byte of the frame in progress. -/
  | interByteExpiry
  /-- R157: a complete and valid frame arrives while a request is in service. -/
  | frameDropped
  /-- R158: a request frame whose KIND names no request kind. -/
  | requestUnknownKind (kind tag : Byte) (payload : List Byte) (hrdy : Bool)
  /-- R170 -/
  | status (tag : Byte) (payload : List Byte) (hrdy : Bool)
  /-- R20 -/
  | readTracker (tag : Byte) (payload : List Byte) (hrdy : Bool)
  /-- R38 -/
  | readChannel (tag : Byte) (payload : List Byte) (hrdy : Bool)
  /-- R171 -/
  | readTransformer (tag : Byte) (payload : List Byte) (hrdy : Bool)
  /-- R166 -/
  | fetchNotice (tag : Byte) (payload : List Byte) (hrdy : Bool)
  /-- R141, R134 -/
  | setGeneral (tag : Byte) (payload : List Byte) (hrdy : Bool)
  /-- R141, R135 -/
  | setChannel (tag : Byte) (payload : List Byte) (hrdy : Bool)
  /-- R141, R136 -/
  | setTransformer (tag : Byte) (payload : List Byte) (hrdy : Bool)
  /-- R141, R137 -/
  | setCurve (tag : Byte) (payload : List Byte) (hrdy : Bool)
  /-- R141, R138 -/
  | setMonitors (tag : Byte) (payload : List Byte) (hrdy : Bool)
  /-- R141, R139 -/
  | setContact (tag : Byte) (payload : List Byte) (hrdy : Bool)
  /-- R141, R140 -/
  | setAnnunciator (tag : Byte) (payload : List Byte) (hrdy : Bool)
  /-- R142 -/
  | readSettings (tag : Byte) (payload : List Byte) (hrdy : Bool)
  /-- R143 -/
  | commit (tag : Byte) (payload : List Byte) (hrdy : Bool)
  /-- R148 -/
  | discard (tag : Byte) (payload : List Byte) (hrdy : Bool)
  /-- R97 -/
  | acknowledge (tag : Byte) (payload : List Byte) (hrdy : Bool)
  /-- R102 -/
  | silence (tag : Byte) (payload : List Byte) (hrdy : Bool)
  /-- R67 -/
  | clearExposure (tag : Byte) (payload : List Byte) (hrdy : Bool)
  /-- R65 -/
  | presetThermal (tag : Byte) (payload : List Byte) (hrdy : Bool)
  /-- R34 -/
  | selfCheck (tag : Byte) (payload : List Byte) (hrdy : Bool)
  /-- R124 -/
  | captureTrigger (tag : Byte) (payload : List Byte) (hrdy : Bool)
  /-- R125 -/
  | captureHold (tag : Byte) (payload : List Byte) (hrdy : Bool)
  /-- R127 -/
  | captureRelease (tag : Byte) (payload : List Byte) (hrdy : Bool)
  /-- R128 -/
  | captureRead (tag : Byte) (payload : List Byte) (hrdy : Bool)
  /-- R129 -/
  | captureInfo (tag : Byte) (payload : List Byte) (hrdy : Bool)
  /-- R162 -/
  | restart (tag : Byte) (payload : List Byte) (hrdy : Bool)
  /-- R160: HRDY becomes asserted. -/
  | hrdyAsserted
  /-- R156: the stop bit of the last reply byte has been sent. -/
  | replySent
  /-- R105: the high time, or the whole period, of the tone runs out. -/
  | tonePeriod
deriving DecidableEq, Repr

end Sys2Proof
end

