-- ==== Sys2Proof/Decode.lean ====
section
/-! DEFINITION. The opcode table gives no row of this part any bits (every row's "fields" is empty and none has a
pattern), so no word spells a command. -/

namespace Sys2Proof

/-- The command a word spells by the table's bits: none, for the table has none. -/
def decodeTableWord (_nbits _w : Nat) : Option Instr := none

end Sys2Proof
end

