-- ==== Sys2Proof/Config.lean ====
section
/-! DEFINITION. What one part fixes: its identity codes, and the strap levels that `State.reset` presumes. -/

namespace Sys2Proof.Config

/-- Family code (R170). -/
def familyCode : Byte := 0x4E

/-- Revision (R170). -/
def revision : Byte := 0x01

/-- DESIGN CHOICE, unsafe (notes/assumptions/1.md): the manual gives the straps no level; RATE in `State.reset`. -/
def resetRate : BitVec 2 := 0

/-- DESIGN CHOICE, unsafe (notes/assumptions/1.md): FNOM in `State.reset`. -/
def resetFnom : Fnom := .hz50

end Sys2Proof.Config
end

