-- ==== Sys2Proof/Machine/Table.lean ====
section
/-! DEFINITION. `Table n α`: exactly `n` cells, held as a list with the proof of its length, so that the sixteen
channels, eight slots and six contacts are plain data that two states can be compared by. -/

namespace Sys2Proof

/-- Exactly `n` cells, indexed by `Fin n`. -/
structure Table (n : Nat) (α : Type) where
  cells : List α
  size : cells.length = n
deriving DecidableEq, Repr

namespace Table

variable {n : Nat} {α β : Type}

/-- The cell with index `i`. -/
def get (t : Table n α) (i : Fin n) : α := t.cells[i.val]'(by rw [t.size]; exact i.isLt)

/-- The table with `x` in cell `i`. -/
def set (t : Table n α) (i : Fin n) (x : α) : Table n α := ⟨t.cells.set i.val x, by rw [List.length_set]; exact t.size⟩

/-- The table with `f` applied to cell `i`. -/
def modify (t : Table n α) (i : Fin n) (f : α → α) : Table n α := t.set i (f (t.get i))

/-- The table whose cell `i` is `f i`. -/
def ofFn (f : Fin n → α) : Table n α := ⟨List.ofFn f, List.length_ofFn⟩

/-- The table with `x` in every cell. -/
def fill (n : Nat) (x : α) : Table n α := ⟨List.replicate n x, List.length_replicate⟩

end Table

end Sys2Proof
end

