-- ==== Sys2Proof/Machine/Types.lean ====
section
/-! DEFINITION. The types of what each block holds, and the power-on value of each. -/

namespace Sys2Proof.Machine

/-- Alarm levels NORMAL, WATCH, ALERT and CRITICAL, numbered 0 to 3 (scope 6.3); demands use the same numbers (R73). -/
abbrev Level := Fin 4

/-! ## Timebase (R1, R2) -/

inductive Phase where
  | starting
  | running
deriving DecidableEq, Repr

/-- The timebase and the sampled straps (R1, R21). `startTicks` counts the 8,000 ticks of STARTING. -/
structure Timebase where
  phase : Phase
  startTicks : Nat
  rate : BitVec 2
  fnom : Fnom
deriving DecidableEq, Repr

/-- The nominal sampling period: 20,000 ticks at 50 Hz, 16,667 at 60 Hz (R1). -/
def nominalPeriod : Fnom → Nat
  | .hz50 => 20000
  | .hz60 => 16667

/-! ## Cycle Tracker (section 1.2.1) -/

inductive TrackerState where
  | searching
  | locked
  | holdover
  | free
deriving DecidableEq, Repr

/-- What the tracker holds (section 1.2.1). -/
structure Tracker where
  state : TrackerState
  pGood : Option Nat
  goodRun : Nat
  hold : Nat
  reference : Bool
  ticks : Nat
deriving DecidableEq, Repr

/-- R21 -/
def Tracker.powerOn : Tracker :=
  { state := .searching, pGood := none, goodRun := 0, hold := 0, reference := false, ticks := 0 }

/-! ## Sample Scanner (R12 to R18) -/

/-- What a conversion reads through the input multiplexer (R14). -/
inductive ConvInput where
  | channel (c : Fin 16)
  | reference
  | ground
deriving DecidableEq, Repr

/-- What the scanner keeps over a cycle for one listed channel (R16): the cycle sum, the clip mark and, for the
stuck mark, whether every code so far was 4 or less, and whether every code so far was 4091 or more. -/
structure ChannelSums where
  chan : Fin 16
  sum : Nat
  clip : Bool
  allLow : Bool
  allHigh : Bool
deriving DecidableEq, Repr

/-- R16: cleared at the cycle start. -/
def ChannelSums.fresh (c : Fin 16) : ChannelSums :=
  { chan := c, sum := 0, clip := false, allLow := true, allHigh := true }

/-- The cycle in progress (R12, R13, R14, R17). `ticks` counts from the cycle start, `slot` is the number of
sample slots that have fallen, `conversions` the conversions of the present slot that have not ended, and
`converted` the number of that slot's conversions that have. -/
structure Cycle where
  number : Count32
  ps : Nat
  degraded : Bool
  sums : List ChannelSums
  selfCheck : Bool
  refSum : Nat
  gndSum : Nat
  ticks : Nat
  slot : Nat
  conversions : List ConvInput
  converted : Nat
deriving DecidableEq, Repr

/-- The scanner: the cycle number, which at any moment is that of the cycle in progress (R18), and that cycle (none
until RUNNING, R21). -/
structure Scanner where
  cycleNumber : Count32
  cycle : Option Cycle
deriving DecidableEq, Repr

/-- R21 -/
def Scanner.powerOn : Scanner := { cycleNumber := 0, cycle := none }

/-! ## Channel Conditioner (sections 2.1, 2.2, R33) -/

inductive ChannelState where
  | disabled
  | ok
  | fault
deriving DecidableEq, Repr

/-- A channel's last epoch result (section 2.1). -/
structure ChannelResult where
  mq : Nat
  current : Int
  k : Nat
  held : Bool
  clipped : Bool
  degraded : Bool
  neverValid : Bool
deriving DecidableEq, Repr

/-- Mq 32768, current 0, K 0, HELD and NEVER-VALID (section 2.1, R32). -/
def ChannelResult.never : ChannelResult :=
  { mq := 32768, current := 0, k := 0, held := true, clipped := false, degraded := false, neverValid := true }

/-- One channel's record (section 2.1). -/
structure ChannelRecord where
  state : ChannelState
  stuckRun : Nat
  cleanRun : Nat
  lastCq : Nat
  sum : Nat
  count : Nat
  clipSeen : Bool
  degradedSeen : Bool
  result : ChannelResult
  lastValid : Option (Nat × Int)
deriving DecidableEq, Repr

/-- The record of a newly enabled channel (R32), but for its state. -/
def ChannelRecord.blank (st : ChannelState) : ChannelRecord :=
  { state := st, stuckRun := 0, cleanRun := 0, lastCq := 32768, sum := 0, count := 0, clipSeen := false,
    degradedSeen := false, result := .never, lastValid := none }

/-- The DISABLED values of section 2.1. -/
def ChannelRecord.disabled : ChannelRecord := .blank .disabled

inductive SelfCheckState where
  | none
  | scheduled
  | running
  | pass
  | fail
deriving DecidableEq, Repr

inductive Verdict where
  | none
  | pass
  | fail
deriving DecidableEq, Repr

/-- Who scheduled the self-check in hand (R33). -/
inductive Origin where
  | request
  | automatic
deriving DecidableEq, Repr

/-- What the Conditioner holds besides the channel records: the epoch (R25) and the self-check (R33). -/
structure Conditioner where
  channels : Table 16 ChannelRecord
  epochCycles : Nat
  epochNumber : Count32
  selfCheck : SelfCheckState
  verdict : Verdict
  origin : Option Origin
  autoCount : Nat
deriving DecidableEq, Repr

/-- R39 -/
def Conditioner.powerOn : Conditioner :=
  { channels := .fill 16 .disabled, epochCycles := 0, epochNumber := 0, selfCheck := .none, verdict := .none,
    origin := Option.none, autoCount := 0 }

/-! ## Per-slot state (sections 3.1, 4.1, 5.1, 6.1.1) -/

/-- The Transformer Table's computed state of a slot (R42). -/
structure SlotCurrent where
  ieff : Int
  held : Bool
  clipped : Bool
  degraded : Bool
deriving DecidableEq, Repr

/-- The thermal record of a slot (R57). -/
structure Thermal where
  target : Nat
  rise : Nat
  exposure : Nat
  satReported : Bool
deriving DecidableEq, Repr

/-- The evaluator record of a slot (R70). -/
structure Grade where
  level : Level
  prevC : Level
  prevR : Level
  prevE : Level
  up : Nat
  upMin : Level
  down : Nat
  downMax : Level
deriving DecidableEq, Repr

inductive SignalState where
  | quiet
  | flashing
  | steady
  | ringback
deriving DecidableEq, Repr

/-- The annunciation record of a slot (R91). -/
structure Signal where
  state : SignalState
  flash : Level
  acked : Level
deriving DecidableEq, Repr

/-- All of one slot's computed state, by owning block. -/
structure Slot where
  cur : SlotCurrent
  thermal : Thermal
  grade : Grade
  signal : Signal
deriving DecidableEq, Repr

/-- What a slot that is not defined holds, and what a newly defined one starts from (R50, R53, section 3.4). -/
def Slot.zero : Slot :=
  { cur := { ieff := 0, held := false, clipped := false, degraded := false }
    thermal := { target := 0, rise := 0, exposure := 0, satReported := false }
    grade := { level := 0, prevC := 0, prevR := 0, prevE := 0, up := 0, upMin := 0, down := 0, downMax := 0 }
    signal := { state := .quiet, flash := 0, acked := 0 } }

/-! ## The Annunciator's global state (R100 to R108) -/

inductive Debounce where
  | idle
  | seen
  | taken
deriving DecidableEq, Repr

inductive ToneSource where
  | chirp
  | horn
deriving DecidableEq, Repr

/-- The stretch of tone on the horn line (R104, R105): the divisor and the high time of the present tone
period, in tone-clock counts, and whether the line is in the high part of the period. -/
structure Tone where
  source : ToneSource
  divisor : Nat
  highTime : Nat
  high : Bool
deriving DecidableEq, Repr

/-- Silenced mark, pattern positions, chirp countdown, ACKB debounce, beat counter and tone (R100 to R108).
`tone` is none while the line carries no tone. `hornReset` and `lampReset` are the MODEL's own: the horn position,
and both lamp positions, have been set to 0 since the last tick, so that a beat of this instant does not advance
them (R103, R108). -/
structure Annunciator where
  silenced : Bool
  hornPos : Nat
  chirp : Nat
  fastPos : Nat
  slowPos : Nat
  debounce : Debounce
  beatTicks : Nat
  tone : Option Tone
  hornReset : Bool
  lampReset : Bool
deriving DecidableEq, Repr

/-- R113 -/
def Annunciator.powerOn : Annunciator :=
  { silenced := false, hornPos := 0, chirp := 0, fastPos := 0, slowPos := 0, debounce := .idle, beatTicks := 0,
    tone := none, hornReset := false, lampReset := false }

/-! ## Capture Memory (R114, R115) -/

/-- One listed channel of a capture frame (R115): its codes in slot order and its clip mark. -/
structure FrameChannel where
  chan : Fin 16
  codes : List Code
  clip : Bool
deriving DecidableEq, Repr

/-- A capture frame (R115). -/
structure Frame where
  number : Count32
  ps : Nat
  degraded : Bool
  channels : List FrameChannel
deriving DecidableEq, Repr

/-- The frame in progress with its kept mark (R115). -/
structure OpenFrame where
  frame : Frame
  kept : Bool
deriving DecidableEq, Repr

/-- The cause of a trigger with its subject (R119). -/
inductive Cause where
  | level (t : Fin 8)
  | step (c : Fin 16)
  | request
deriving DecidableEq, Repr

/-- A trigger; when taken, the trigger record (R119). -/
structure Trigger where
  cause : Cause
  cycle : Count32
  epoch : Count32
deriving DecidableEq, Repr

inductive CaptureState where
  | armed
  | held
  | triggered
  | frozen
deriving DecidableEq, Repr

/-- Capture Memory (R114). The fill is the length of `ring`. -/
structure Capture where
  state : CaptureState
  ring : List Frame
  depth : Nat
  preKept : Nat
  post : Nat
  record : Option Trigger
  missed : Nat
  missReported : Bool
  holdPending : Bool
  current : Option OpenFrame
deriving DecidableEq, Repr

/-- R114 -/
def Capture.powerOn : Capture :=
  { state := .armed, ring := [], depth := 0, preKept := 0, post := 0, record := none, missed := 0,
    missReported := false, holdPending := false, current := none }

/-! ## Settings (section 8.2) -/

/-- R134 -/
structure General where
  epochCycles : Nat
  checkInterval : Nat
  attention : Bool
  annunciateAt : Level
  captureLevel : Level
  preDepth : Nat
deriving DecidableEq, Repr

/-- R135 -/
structure ChannelItem where
  enabled : Bool
  trim : Int
  gain : Int
  stepThreshold : Nat
deriving DecidableEq, Repr

/-- One term of a slot's effective current (R40, R136). -/
structure Term where
  chan : Fin 16
  weight : Int
deriving DecidableEq, Repr

/-- R136 -/
structure TransformerItem where
  defined : Bool
  terms : List Term
  tauUp : Nat
  tauDown : Nat
  floor : Nat
deriving DecidableEq, Repr

/-- A breakpoint of a capability curve: a current in dA and a rise in cK (R58, R137). -/
structure Breakpoint where
  current : Nat
  rise : Nat
deriving DecidableEq, Repr

/-- The thresholds of one monitor for levels 1, 2 and 3; 0 is unused (R72). -/
structure Thresholds where
  l1 : Nat
  l2 : Nat
  l3 : Nat
deriving DecidableEq, Repr

/-- R138 -/
structure MonitorsItem where
  c : Thresholds
  r : Thresholds
  e : Thresholds
  hC : Nat
  hR : Nat
  pUp : Nat
  pDown : Nat
deriving DecidableEq, Repr

/-- A contact's source with the parameters its kind uses (R110, R139). -/
inductive ContactSource where
  | none
  | level (t : Fin 8) (n : Level)
  | anyLevel (n : Level)
  | unacknowledged
  | horn
  | healthy
  | captureReady
deriving DecidableEq, Repr

inductive Sense where
  | energizeWhenTrue
  | deEnergizeWhenTrue
deriving DecidableEq, Repr

/-- R109, R139 -/
structure ContactItem where
  enabled : Bool
  source : ContactSource
  sense : Sense
deriving DecidableEq, Repr

/-- Sixteen on/off steps (step k is bit k) and a width (R103, R108, R173). -/
structure Pattern where
  steps : BitVec 16
  width : Nat
deriving DecidableEq, Repr

/-- R140 -/
structure AnnunciatorItem where
  hornTone : Nat
  loudness : Nat
  horn1 : Pattern
  horn2 : Pattern
  horn3 : Pattern
  fast : Pattern
  slow : Pattern
  chirpEnable : Bool
  chirpTone : Nat
deriving DecidableEq, Repr

/-- A complete configuration (R133). -/
structure Settings where
  general : General
  channels : Table 16 ChannelItem
  transformers : Table 8 TransformerItem
  curves : Table 8 (List Breakpoint)
  monitors : Table 8 MonitorsItem
  contacts : Table 6 ContactItem
  annunciator : AnnunciatorItem
deriving DecidableEq, Repr

/-- R134: EPOCH_CYCLES is 50 at 50 Hz and 60 at 60 Hz. -/
def General.powerOn (f : Fnom) : General :=
  { epochCycles := match f with | .hz50 => 50 | .hz60 => 60
    checkInterval := 600, attention := true, annunciateAt := 2, captureLevel := 2, preDepth := 16 }

/-- R135 -/
def ChannelItem.powerOn : ChannelItem := { enabled := false, trim := 0, gain := 0, stepThreshold := 0 }

/-- R136 -/
def TransformerItem.powerOn : TransformerItem := { defined := false, terms := [], tauUp := 1, tauDown := 1, floor := 0 }

/-- R138: a monitor that uses no level. -/
def Thresholds.unused : Thresholds := { l1 := 0, l2 := 0, l3 := 0 }

/-- R138 -/
def MonitorsItem.powerOn : MonitorsItem :=
  { c := .unused, r := .unused, e := .unused, hC := 0, hR := 0, pUp := 1, pDown := 1 }

/-- R139 -/
def ContactItem.powerOn : ContactItem := { enabled := false, source := .none, sense := .energizeWhenTrue }

/-- R140 -/
def AnnunciatorItem.powerOn : AnnunciatorItem :=
  { hornTone := 3, loudness := 1
    horn1 := { steps := 0x0001, width := 8 }
    horn2 := { steps := 0x0001, width := 2 }
    horn3 := { steps := 0x0001, width := 1 }
    fast := { steps := 0x0001, width := 2 }
    slow := { steps := 0x000F, width := 8 }
    chirpEnable := true, chirpTone := 0 }

/-- The power-on defaults of section 8.2 (R149). -/
def Settings.powerOn (f : Fnom) : Settings :=
  { general := .powerOn f
    channels := .fill 16 .powerOn
    transformers := .fill 8 .powerOn
    curves := .fill 8 []
    monitors := .fill 8 .powerOn
    contacts := .fill 6 .powerOn
    annunciator := .powerOn }

/-- The Settings Store (R133): the applied copy, the pending copy, and whether the pending state is SEALED. -/
structure Store where
  applied : Settings
  pending : Settings
  isSealed : Bool
deriving DecidableEq, Repr

/-- R149 -/
def Store.powerOn (f : Fnom) : Store := { applied := .powerOn f, pending := .powerOn f, isSealed := false }

/-! ## Link Interface (R154, R156, R160, R163) -/

/-- HUNTING, or RECEIVING with the bytes taken since SYNC (R154). -/
inductive Receiver where
  | hunting
  | receiving (taken : List Byte)
deriving DecidableEq, Repr

/-- Where the request in service stands: it has entered service and is not yet dispatched (R156, R158); it is a
CAPTURE HOLD that waits (R125); it has been answered (R159); it is an answered RESTART (R162). -/
inductive Stage where
  | entered
  | holding
  | answered
  | restarting
deriving DecidableEq, Repr

/-- The request in service (R156). -/
structure Service where
  kind : Byte
  tag : Byte
  payload : List Byte
  stage : Stage
deriving DecidableEq, Repr

/-- Reply statuses (R152, section 11.1). -/
inductive ReplyStatus where
  | done
  | refusedKind
  | refusedLength
  | refusedValue
  | refusedState
  | busy
deriving DecidableEq, Repr

/-- A reply as formed at the answer: all but FLAGS and the check (R152, R159). -/
structure Reply where
  kind : Byte
  tag : Byte
  status : ReplyStatus
  body : List Byte
deriving DecidableEq, Repr

/-- R160. While SENDING the transmitter holds the whole reply frame. -/
inductive Transmitter where
  | idle
  | waitHrdy (r : Reply)
  | sending (bytes : List Byte)
deriving DecidableEq, Repr

/-- The Link Interface (R163). `byteTicks` is the inter-byte timing (R155) and `txTicks` counts the ticks since
the start of the reply (R150). -/
structure Link where
  receiver : Receiver
  byteTicks : Nat
  service : Option Service
  dropped : Bool
  tx : Transmitter
  txTicks : Nat
deriving DecidableEq, Repr

/-- R163 -/
def Link.powerOn : Link :=
  { receiver := .hunting, byteTicks := 0, service := none, dropped := false, tx := .idle, txTicks := 0 }

/-! ## Notice Queue (R164, R165) -/

/-- Source of an acknowledgement (R98). -/
inductive AckSource where
  | request
  | button
deriving DecidableEq, Repr

/-- The thirteen notice kinds with their subjects and details (R164). -/
inductive NoticeBody where
  | levelChanged (t : Fin 8) (old new : Level) (byC byR byE : Bool)
  | acknowledged (source : AckSource) (changed : Table 8 Bool)
  | channelFault (c : Fin 16)
  | channelRecovered (c : Fin 16)
  | referenceLost
  | referenceRestored (pGood : Nat)
  | freeRunning
  | selfCheckResult (pass : Bool) (refMean gndMean : Nat)
  | settingsApplied
  | exposureSaturated (t : Fin 8)
  | captureFrozen (cause : Cause)
  | captureMissed (cause : Cause)
  | holdRevoked (cause : Cause)
deriving DecidableEq, Repr

/-- A notice record (R164). -/
structure Notice where
  epoch : Count32
  body : NoticeBody
deriving DecidableEq, Repr

/-- The Notice Queue, oldest first, with its lost mark (R165). -/
structure NoticeQueue where
  queue : List Notice
  lost : Bool
deriving DecidableEq, Repr

/-- R168 -/
def NoticeQueue.empty : NoticeQueue := { queue := [], lost := false }

/-! ## What is between blocks at one instant -/

/-- What the Thermal and Exposure Unit hands the Alarm Evaluator for a slot (R64). -/
structure Handed where
  slot : Fin 8
  ieff : Int
  rise : Nat
  exposure : Nat
deriving DecidableEq, Repr

/-- A level change as the Alarm Evaluator hands it to the Annunciator (R81, R85). -/
structure LevelChange where
  slot : Fin 8
  old : Level
  new : Level
deriving DecidableEq, Repr

/-- A cycle start as the Cycle Tracker gives it to the Sample Scanner (R11). -/
structure CycleStart where
  ps : Nat
  degraded : Bool
deriving DecidableEq, Repr

/-- The MODEL's own field: the parts of the last completion that no block has taken yet, the channel entries of the
record that the Conditioner has not taken, the triggers handed toward Capture Memory that it has not taken, the values
handed to the Alarm Evaluator that it has not graded, the level changes handed to the Annunciator that it has not taken,
and the cycle start given to the scanner that it has not taken (R11, R18, R22, R31, R64, R85, R87, R123). Empty between
instants. -/
structure Flight where
  parts : List CompletionPart
  entries : List ChannelSums
  steps : List Trigger
  levels : List Trigger
  handed : List Handed
  changes : List LevelChange
  given : Option CycleStart
deriving DecidableEq, Repr

/-- Nothing is between blocks. -/
def Flight.none : Flight := { parts := [], entries := [], steps := [], levels := [], handed := [], changes := [], given := Option.none }

end Sys2Proof.Machine
end

