-- ==== Sys2Proof/Machine/State.lean ====
section
/-! DEFINITION. The state of the Nelsar 1608, block by block, with the queue of waiting commands; the reasons a
step can stop; and the state after reset. -/

namespace Sys2Proof.Machine

/-- No command of this part faults: the manual gives every event and every request an effect, and an event that
cannot occur in a state changes nothing there (notes/assumptions/3.md). -/
inductive Fault where
deriving DecidableEq, Repr

/-- Why a command has no meaning. -/
inductive Refusal where
  /-- Raised by an arm of `exec` whose command has no meaning yet; safe. No arm raises it. -/
  | notModelled (mnemonic : String)
deriving DecidableEq, Repr

/-- The whole state. `pending` is the queue of waiting commands, first in, first out; every other field but
`flight` is a block of the manual (section 3 of the scope file). -/
structure State where
  pending : List Instr
  time : Timebase
  tracker : Tracker
  scanner : Scanner
  cond : Conditioner
  slots : Table 8 Slot
  ann : Annunciator
  capture : Capture
  store : Store
  link : Link
  notices : NoticeQueue
  flight : Flight
deriving DecidableEq, Repr

/-- The state when power-on reset ends with these strap levels (R1, R21, R39, R42, R56, R57, R70, R91, R113,
R114, R149, R163, R168). -/
def State.powerOn (rate : BitVec 2) (fnom : Fnom) : State :=
  { pending := []
    time := { phase := .starting, startTicks := 0, rate := rate, fnom := fnom }
    tracker := .powerOn
    scanner := .powerOn
    cond := .powerOn
    slots := .fill 8 .zero
    ann := .powerOn
    capture := .powerOn
    store := .powerOn fnom
    link := .powerOn
    notices := .empty
    flight := .none }

/-- The machine right after reset. The strap levels are a DESIGN CHOICE (notes/assumptions/1.md). -/
def State.reset : State := State.powerOn Config.resetRate Config.resetFnom

end Sys2Proof.Machine
end

