-- ==== Sys2Proof/Machine/Operands.lean ====
section
/-! DEFINITION. Operand forms: request kinds and their lengths (R174), numbers and sets in link frames (R173), the
frame check (R153), and the converter (R15). -/

namespace Sys2Proof.Machine

/-! ## Request kinds (section 11.3) -/

/-- The KIND code of a request kind (R174). -/
def RequestKind.code : RequestKind → Byte
  | .status => 0x01
  | .readTracker => 0x02
  | .readChannel => 0x03
  | .readTransformer => 0x04
  | .fetchNotice => 0x05
  | .setGeneral => 0x10
  | .setChannel => 0x11
  | .setTransformer => 0x12
  | .setCurve => 0x13
  | .setMonitors => 0x14
  | .setContact => 0x15
  | .setAnnunciator => 0x16
  | .readSettings => 0x17
  | .commit => 0x18
  | .discard => 0x19
  | .acknowledge => 0x20
  | .silence => 0x21
  | .clearExposure => 0x22
  | .presetThermal => 0x23
  | .selfCheck => 0x24
  | .captureTrigger => 0x30
  | .captureHold => 0x31
  | .captureRelease => 0x32
  | .captureRead => 0x33
  | .captureInfo => 0x34
  | .restart => 0x3F

/-- The one accepted payload length of a kind (R174). -/
def RequestKind.length : RequestKind → Nat
  | .readChannel | .readTransformer | .fetchNotice | .acknowledge | .clearExposure => 1
  | .setGeneral | .presetThermal => 7
  | .setChannel => 8
  | .setTransformer => 18
  | .setCurve => 34
  | .setMonitors => 31
  | .setContact => 6
  | .setAnnunciator => 19
  | .readSettings => 3
  | .captureRead => 2
  | .status | .readTracker | .commit | .discard | .silence | .selfCheck | .captureTrigger | .captureHold
  | .captureRelease | .captureInfo | .restart => 0

/-- The request kinds of section 11.3, in its order. -/
def RequestKind.all : List RequestKind :=
  [.status, .readTracker, .readChannel, .readTransformer, .fetchNotice, .setGeneral, .setChannel, .setTransformer,
   .setCurve, .setMonitors, .setContact, .setAnnunciator, .readSettings, .commit, .discard, .acknowledge, .silence,
   .clearExposure, .presetThermal, .selfCheck, .captureTrigger, .captureHold, .captureRelease, .captureRead,
   .captureInfo, .restart]

/-- Whether a KIND byte names a request kind (R158). -/
def knownKind (b : Byte) : Bool := RequestKind.all.any fun k => k.code == b

/-! ## Reading request fields (R173) -/

/-- The one-byte field at an offset of the payload. -/
def u8 (p : List Byte) (o : Nat) : Nat := (p.getD o 0).toNat

/-- The two-byte unsigned field at an offset, most significant byte first. -/
def u16 (p : List Byte) (o : Nat) : Nat := u8 p o * 256 + u8 p (o + 1)

/-- The four-byte unsigned field at an offset, most significant byte first. -/
def u32 (p : List Byte) (o : Nat) : Nat := u16 p o * 65536 + u16 p (o + 2)

/-- The two-byte field at an offset in two's complement. -/
def s16 (p : List Byte) (o : Nat) : Int := (BitVec.ofNat 16 (u16 p o)).toInt

/-- The yes/no field at an offset: yes is 1. -/
def yes (p : List Byte) (o : Nat) : Bool := u8 p o == 1

/-- A yes/no byte holds 0 or 1 (R174). -/
def yesNoOk (p : List Byte) (o : Nat) : Bool := u8 p o ≤ 1

/-! ## Writing reply fields (R173) -/

/-- One byte holding an unsigned number. -/
def byte (n : Nat) : Byte := BitVec.ofNat 8 n

/-- Two bytes holding an unsigned number. -/
def be16 (n : Nat) : List Byte := [byte (n / 256), byte n]

/-- Four bytes holding an unsigned number. -/
def be32 (n : Nat) : List Byte := be16 (n / 65536) ++ be16 n

/-- Two bytes holding a signed number in two's complement. -/
def beInt (i : Int) : List Byte := be16 (BitVec.ofInt 16 i).toNat

/-- A yes/no byte. -/
def yesNo (b : Bool) : Byte := if b then 1 else 0

/-- The number whose bit m is member m of the list (R173, sets). -/
def bits : List Bool → Nat
  | [] => 0
  | b :: rest => (if b then 1 else 0) + 2 * bits rest

/-! ## The frame check (R153) -/

/-- One of the eight shifts of the check register for one byte. -/
def crcShift (r : BitVec 16) : BitVec 16 := if r.msb then (r <<< 1) ^^^ 0x1021 else r <<< 1

/-- The check register after one more covered byte. -/
def crcByte (r : BitVec 16) (b : Byte) : BitVec 16 :=
  let r0 := r ^^^ (b.setWidth 16 <<< 8)
  crcShift (crcShift (crcShift (crcShift (crcShift (crcShift (crcShift (crcShift r0)))))))

/-- The check register run over bytes from a start value. -/
def crcFrom (r : BitVec 16) (bs : List Byte) : BitVec 16 := bs.foldl crcByte r

/-- The check of the covered bytes. -/
def crc (bs : List Byte) : BitVec 16 := crcFrom 0xFFFF bs

/-- The two check bytes, high byte first. -/
def crcBytes (bs : List Byte) : List Byte := be16 (crc bs).toNat

/-! ## The converter (R15) -/

/-- The code of an input of so many µV: floor(v × 4096 / 2.5), clamped to 0..4095. -/
def adcCode (microvolts : Int) : Code := BitVec.ofNat 12 (min 4095 (microvolts * 4096 / 2500000).toNat)

/-! ## The strap RATE (R150) -/

/-- The bit rate that RATE selects, in bit/s. -/
def bitRate (rate : BitVec 2) : Nat :=
  if rate = 0 then 9600 else if rate = 1 then 38400 else if rate = 2 then 115200 else 230400

/-- The ticks that n characters of ten bits occupy, rounded up to a whole tick (notes/assumptions/8.md). -/
def sendTicks (rate : BitVec 2) (n : Nat) : Nat := ceilDiv (n * 10 * 1000000) (bitRate rate)

/-! ## Slot times (R13, R14) -/

/-- Sample slot k falls at floor(k × P_s / 32) ticks after the cycle start. -/
def slotTime (ps k : Nat) : Nat := k * ps / 32

end Sys2Proof.Machine
end

