-- ==== Sys2Proof/Machine/Flags.lean ====
section
/-! DEFINITION. Status and flag computations: STATUS and FLAGS codes of a reply (R161, section 11.1), the
enumeration codes of section 11.2, and the flag bytes of the reply bodies (R175). -/

namespace Sys2Proof.Machine

/-- The STATUS byte (section 11.1). -/
def ReplyStatus.code : ReplyStatus → Byte
  | .done => 0x00
  | .refusedKind => 0x01
  | .refusedLength => 0x02
  | .refusedValue => 0x03
  | .refusedState => 0x04
  | .busy => 0x05

/-- The FLAGS byte at the start of a reply: DROPPED bit 0, NOTICES WAITING bit 1, LOST bit 2 (R161). -/
def replyFlags (s : State) : Byte :=
  byte (bits [s.link.dropped, !s.notices.queue.isEmpty, s.notices.lost])

/-- Section 11.2: tracker state. -/
def TrackerState.code : TrackerState → Byte
  | .searching => 0
  | .locked => 1
  | .holdover => 2
  | .free => 3

/-- Section 11.2: channel state. -/
def ChannelState.code : ChannelState → Byte
  | .disabled => 0
  | .ok => 1
  | .fault => 2

/-- Section 11.2: annunciation state. -/
def SignalState.code : SignalState → Byte
  | .quiet => 0
  | .flashing => 1
  | .steady => 2
  | .ringback => 3

/-- Section 11.2: self-check state. -/
def SelfCheckState.code : SelfCheckState → Byte
  | .none => 0
  | .scheduled => 1
  | .running => 2
  | .pass => 3
  | .fail => 4

/-- Section 11.2: last verdict. -/
def Verdict.code : Verdict → Byte
  | .none => 0
  | .pass => 1
  | .fail => 2

/-- Section 11.2: capture state. -/
def CaptureState.code : CaptureState → Byte
  | .armed => 0
  | .held => 1
  | .triggered => 2
  | .frozen => 3

/-- Section 11.2: trigger cause. -/
def Cause.code : Cause → Byte
  | .level _ => 1
  | .step _ => 2
  | .request => 3

/-- The subject of a cause: a slot for LEVEL, a channel for STEP, 0xFF for REQUEST (section 11.4). -/
def Cause.subject : Cause → Byte
  | .level t => byte t.val
  | .step c => byte c.val
  | .request => 0xFF

/-- Section 11.2: acknowledgement source. -/
def AckSource.code : AckSource → Byte
  | .request => 0
  | .button => 1

/-- Section 11.2: start-up state. -/
def Phase.code : Phase → Byte
  | .starting => 0
  | .running => 1

/-- Section 11.2: FNOM value. -/
def fnomCode : Fnom → Byte
  | .hz50 => 0
  | .hz60 => 1

/-- Section 11.2: contact source kind. -/
def ContactSource.code : ContactSource → Byte
  | .none => 0
  | .level _ _ => 1
  | .anyLevel _ => 2
  | .unacknowledged => 3
  | .horn => 4
  | .healthy => 5
  | .captureReady => 6

/-- Section 11.2: contact sense. -/
def Sense.code : Sense → Byte
  | .energizeWhenTrue => 0
  | .deEnergizeWhenTrue => 1

/-- The quality flags byte of READ TRANSFORMER: HELD, CLIPPED, DEGRADED (R175). -/
def SlotCurrent.flagsByte (c : SlotCurrent) : Byte := byte (bits [c.held, c.clipped, c.degraded])

/-- The result flags byte of READ CHANNEL: HELD, CLIPPED, DEGRADED, NEVER-VALID (R175). -/
def ChannelResult.flagsByte (r : ChannelResult) : Byte := byte (bits [r.held, r.clipped, r.degraded, r.neverValid])

/-- The accumulator marks byte of READ CHANNEL: clip-seen, degraded-seen (R175). -/
def ChannelRecord.marksByte (r : ChannelRecord) : Byte := byte (bits [r.clipSeen, r.degradedSeen])

end Sys2Proof.Machine
end

