-- ==== Sys2Proof/Machine/Ops.lean ====
section
/-! DEFINITION. The named operations that commands share: one update per block of the state, queueing a notice
(R165), and the life of a request in service: entering, dispatch, answer and start of the reply (R156 to R161). -/

namespace Sys2Proof.Machine

/-! ## One update per block -/

def State.setTime (s : State) (x : Timebase) : State := { s with time := x }
def State.setTracker (s : State) (x : Tracker) : State := { s with tracker := x }
def State.setScanner (s : State) (x : Scanner) : State := { s with scanner := x }
def State.setCond (s : State) (x : Conditioner) : State := { s with cond := x }
def State.setSlots (s : State) (x : Table 8 Slot) : State := { s with slots := x }
def State.setAnn (s : State) (x : Annunciator) : State := { s with ann := x }
def State.setCapture (s : State) (x : Capture) : State := { s with capture := x }
def State.setStore (s : State) (x : Store) : State := { s with store := x }
def State.setLink (s : State) (x : Link) : State := { s with link := x }
def State.setNotices (s : State) (x : NoticeQueue) : State := { s with notices := x }
def State.setFlight (s : State) (x : Flight) : State := { s with flight := x }

/-! ## Reading the applied settings (R133: every block reads the applied copy) -/

/-- The applied settings. -/
def State.applied (s : State) : Settings := s.store.applied

/-- Whether slot t is defined in the applied settings (R40). -/
def State.isDefined (s : State) (t : Fin 8) : Bool := (s.store.applied.transformers.get t).defined

/-- Whether the timebase is RUNNING (R2). -/
def State.isRunning (s : State) : Bool := s.time.phase == .running

/-- Whether the epoch cycle counter has reached the applied EPOCH_CYCLES, so that the epoch completes (R25). -/
def State.epochDue (s : State) : Bool := s.cond.epochCycles == s.store.applied.general.epochCycles

/-! ## The Notice Queue -/

/-- A notice arrives at the queue (R165). -/
def NoticeQueue.arrive (q : NoticeQueue) (n : Notice) : NoticeQueue :=
  if q.queue.length < 32 then { q with queue := q.queue ++ [n] } else { q with lost := true }

/-- A block queues a notice; it carries the epoch number that stands now (R164). -/
def State.notify (s : State) (b : NoticeBody) : State :=
  s.setNotices (s.notices.arrive { epoch := s.cond.epochNumber, body := b })

/-- Several notices queued for one event, in order. -/
def State.notifyAll (s : State) (bs : List NoticeBody) : State := bs.foldl State.notify s

/-! ## Replies -/

/-- The bytes of a reply frame with its FLAGS byte (R152, R153). -/
def Reply.frame (r : Reply) (flags : Byte) : List Byte :=
  let covered := [byte r.body.length, r.kind, r.tag, r.status.code, flags] ++ r.body
  0xC3 :: covered ++ crcBytes covered

/-- The start of a reply: the flags are fixed, the dropped mark is cleared, and sending begins (R160, R161). -/
def State.startReply (r : Reply) (s : State) : State :=
  s.setLink { s.link with tx := .sending (r.frame (replyFlags s)), txTicks := 0, dropped := false }

/-- A reply becomes ready: the transmitter samples HRDY (R160). -/
def State.replyReady (r : Reply) (hrdy : Bool) (s : State) : State :=
  if hrdy then s.startReply r else s.setLink { s.link with tx := .waitHrdy r }

/-- The request in service is answered (R159), going to `stage`; without a request in service nothing happens. -/
def State.answerTo (stage : Stage) (status : ReplyStatus) (body : List Byte) (hrdy : Bool) (s : State) : State :=
  match s.link.service with
  | none => s
  | some r =>
    (s.setLink { s.link with service := some { r with stage := stage } }).replyReady
      { kind := r.kind ||| 0x80, tag := r.tag, status := status, body := body } hrdy

/-- The request in service is answered (R159). -/
def State.answer (status : ReplyStatus) (body : List Byte) (hrdy : Bool) (s : State) : State :=
  s.answerTo .answered status body hrdy

/-! ## Taking a request into service and dispatching it -/

/-- What becomes of a complete and valid request frame (R156, R157). -/
inductive Entry where
  /-- the receiver takes nothing in STARTING (R1) -/
  | ignored
  /-- another request is in service: the frame is dropped (R157) -/
  | dropped
  /-- it is the request in service, to be dispatched now -/
  | taken
deriving DecidableEq, Repr

/-- A request's frame is the one that has just entered service, or it enters service now, or it is dropped
(R156, R157; notes/assumptions/6.md). -/
def State.entry (kind tag : Byte) (payload : List Byte) (s : State) : Entry :=
  if s.isRunning then
    match s.link.service with
    | none => .taken
    | some r => if r = { kind := kind, tag := tag, payload := payload, stage := .entered } then .taken else .dropped
  else .ignored

/-- The request stands in service, not yet dispatched. -/
def State.enterService (kind tag : Byte) (payload : List Byte) (s : State) : State :=
  s.setLink { s.link with service := some { kind := kind, tag := tag, payload := payload, stage := .entered } }

/-- A frame is dropped: the dropped mark is set (R157). -/
def State.dropFrame (s : State) : State := s.setLink { s.link with dropped := true }

/-- How an owning block deals with a request (R159). -/
inductive Answer where
  /-- answered at once -/
  | now (status : ReplyStatus) (body : List Byte)
  /-- RESTART: DONE at once, with effects at the end of its reply (R162) -/
  | thenRestart
  /-- CAPTURE HOLD in ARMED: the request waits in service (R125) -/
  | wait
deriving DecidableEq, Repr

/-- A request answered at once, or left waiting. -/
def State.giveAnswer (a : Answer) (hrdy : Bool) (s : State) : State :=
  match a with
  | .now st body => s.answer st body hrdy
  | .thenRestart => s.answerTo .restarting .done [] hrdy
  | .wait =>
    match s.link.service with
    | none => s
    | some r => s.setLink { s.link with service := some { r with stage := .holding } }

/-- A request of a known kind: it enters service (R156) or is dropped (R157); it is refused REFUSED-LENGTH if its
LENGTH is not the kind's (R158); otherwise its owning block, `owner`, takes it and it is answered (R159). -/
def State.serve (k : RequestKind) (owner : State → State × Answer) (tag : Byte) (payload : List Byte) (hrdy : Bool)
    (s : State) : State :=
  match s.entry k.code tag payload with
  | .ignored => s
  | .dropped => s.dropFrame
  | .taken =>
    let s1 := s.enterService k.code tag payload
    if payload.length = k.length then
      let (s2, a) := owner s1
      s2.giveAnswer a hrdy
    else s1.answer .refusedLength [] hrdy

/-- The three-byte refusal detail: kind, index, field number (R174). -/
def detail (kind : Byte) (index field : Nat) : List Byte := [kind, byte index, byte field]

/-- REFUSED-VALUE with the detail of a request that is no SET and no COMMIT: own kind, index 0 (R159). -/
def refuseField (k : RequestKind) (field : Nat) : Answer := .now .refusedValue (detail k.code 0 field)

/-- REFUSED-STATE, with an empty payload. -/
def refuseState : Answer := .now .refusedState []

/-- DONE with an empty payload. -/
def doneEmpty : Answer := .now .done []

/-- The slot a one-byte slot number names, if it is 0..7. -/
def slotOf (n : Nat) : Option (Fin 8) := if h : n < 8 then some ⟨n, h⟩ else none

/-- The channel a one-byte channel number names, if it is 0..15. -/
def channelOf (n : Nat) : Option (Fin 16) := if h : n < 16 then some ⟨n, h⟩ else none

/-- What a slot selector names (section 11.2): one slot, or all. -/
inductive Selector where
  | one (t : Fin 8)
  | all
deriving DecidableEq, Repr

/-- The slot selector byte: 0..7 one slot, 0xFF all slots. -/
def selectorOf (n : Nat) : Option Selector :=
  if n = 0xFF then some .all else (slotOf n).map .one

end Sys2Proof.Machine
end

