-- ==== Sys2Proof/Machine/Tracker.lean ====
section
/-! DEFINITION. The Cycle Tracker (section 1.2): crossings, periods, the tracker states, and the sampling period of
each cycle. -/

namespace Sys2Proof.Machine

/-- A good period lies within 14,286..25,000 ticks (R3). -/
def goodPeriod (p : Nat) : Bool := 14286 ≤ p && p ≤ 25000

/-- The tracker takes a good period of p ticks (R5, R6, R7, R9). -/
def Tracker.takeGood (p : Nat) (t : Tracker) : Tracker × List NoticeBody :=
  match t.state with
  | .locked => ({ t with pGood := some p }, [])
  | .searching =>
    if t.goodRun + 1 < 3 then ({ t with goodRun := t.goodRun + 1 }, [])
    else ({ t with goodRun := 3, pGood := some p, state := .locked }, [])
  | .holdover | .free =>
    if t.goodRun + 1 < 3 then ({ t with goodRun := t.goodRun + 1 }, [])
    else ({ t with goodRun := 3, pGood := some p, state := .locked }, [.referenceRestored p])

/-- The tracker takes a bad period (R5, R6, R7, R9). -/
def Tracker.takeBad (t : Tracker) : Tracker × List NoticeBody :=
  match t.state with
  | .locked => ({ t with state := .holdover, hold := 0, goodRun := 0 }, [.referenceLost])
  | .searching | .holdover | .free => ({ t with goodRun := 0 }, [])

/-- A rising crossing (R3): without a crossing reference it becomes the reference; with one, the ticks since the
last crossing are the measured period, and the count restarts. -/
def Tracker.crossing (t : Tracker) : Tracker × List NoticeBody :=
  let restarted : Tracker := { t with reference := true, ticks := 0 }
  if t.reference then
    if goodPeriod t.ticks then restarted.takeGood t.ticks else restarted.takeBad
  else (restarted, [])

/-- The missing-crossing expiry (R4). -/
def Tracker.expiry (t : Tracker) : Tracker × List NoticeBody :=
  ({ t with ticks := 0, reference := false } : Tracker).takeBad

/-- The tracker takes a cycle completion (R8). -/
def Tracker.countCompletion (t : Tracker) : Tracker × List NoticeBody :=
  match t.state with
  | .holdover =>
    if t.hold + 1 < 50 then ({ t with hold := t.hold + 1 }, [])
    else ({ t with hold := 50, state := .free }, [.freeRunning])
  | .searching | .locked | .free => (t, [])

/-- P_s of a cycle that starts now (R11): nominal in SEARCHING and FREE, P_good in LOCKED and HOLDOVER. (In these
two P_good is never absent; notes/assumptions/15.md.) -/
def Tracker.samplingPeriod (f : Fnom) (t : Tracker) : Nat :=
  match t.state with
  | .searching | .free => nominalPeriod f
  | .locked | .holdover => t.pGood.getD (nominalPeriod f)

/-- The degraded mark of a cycle that starts now: set unless LOCKED (R11). -/
def Tracker.degradedNow (t : Tracker) : Bool := t.state != .locked

/-- The cycle start that the tracker gives in its present state (R11). -/
def Tracker.cycleStart (f : Fnom) (t : Tracker) : CycleStart :=
  { ps := t.samplingPeriod f, degraded := t.degradedNow }

/-- The tracker's state after one of its events, with the notices of the transition queued (R10). -/
def State.moveTracker (r : Tracker × List NoticeBody) (s : State) : State := (s.setTracker r.1).notifyAll r.2

/-- ZREF_RISING_CROSSING (R3, R5 to R7, R9, R10). While STARTING the tracker ignores ZREF (R1). -/
def execZrefRisingCrossing (s : State) : Host.Outcome State Fault Refusal :=
  .next (if s.isRunning then s.moveTracker s.tracker.crossing else s)

/-- MISSING_CROSSING_EXPIRY (R4): it occurs when the ticks since the last crossing stand at 25,000. -/
def execMissingCrossingExpiry (s : State) : Host.Outcome State Fault Refusal :=
  .next (if s.isRunning && s.tracker.ticks == 25000 then s.moveTracker s.tracker.expiry else s)

end Sys2Proof.Machine
end

