-- ==== Sys2Proof/Machine/Scanner.lean ====
section
/-! DEFINITION. The Sample Scanner (section 1.3): cycle starts, sample slots, conversions, and what a cycle yields
per channel. -/

namespace Sys2Proof.Machine

/-- The channels enabled in a configuration, in ascending index order (R12). -/
def Settings.enabledChannels (c : Settings) : List (Fin 16) :=
  (List.finRange 16).filter fun i => (c.channels.get i).enabled

/-- The channel list of a cycle (R12). -/
def Cycle.channels (c : Cycle) : List (Fin 16) := c.sums.map (·.chan)

/-- A cycle as it stands at its start (R12, R16, R17). -/
def Cycle.fresh (number : Count32) (ps : Nat) (degraded : Bool) (chans : List (Fin 16)) (check : Bool) : Cycle :=
  { number := number, ps := ps, degraded := degraded, sums := chans.map .fresh, selfCheck := check, refSum := 0,
    gndSum := 0, ticks := 0, slot := 0, conversions := [], converted := 0 }

/-- The frame that opens at a cycle start, its kept mark set (R115). -/
def OpenFrame.fresh (number : Count32) (ps : Nat) (degraded : Bool) (chans : List (Fin 16)) : OpenFrame :=
  { frame := { number := number, ps := ps, degraded := degraded,
               channels := chans.map fun c => { chan := c, codes := [], clip := false } }
    kept := true }

/-- The scanner takes a cycle start with the P_s and the degraded mark that the tracker gave (R11); it fixes the
cycle's number, channel list and self-check (R12, R36) and opens the frame in progress (R115). -/
def State.startCycle (number : Count32) (g : CycleStart) (s : State) : State :=
  let chans := s.applied.enabledChannels
  let check := s.cond.selfCheck == .scheduled
  let s1 := s.setScanner { cycleNumber := number, cycle := some (.fresh number g.ps g.degraded chans check) }
  let s2 := s1.setCapture { s.capture with current := some (.fresh number g.ps g.degraded chans) }
  if check then s2.setCond { s.cond with selfCheck := .running } else s2

/-- The conversions of one sample slot, in order (R14). -/
def Cycle.slotConversions (c : Cycle) : List ConvInput :=
  c.channels.map .channel ++ (if c.selfCheck then [.reference, .ground] else [])

/-- Sample slot k of the cycle falls now: k is below 32 and its time is reached (R13). -/
def Cycle.slotDue (c : Cycle) : Bool := c.slot < 32 && c.ticks == slotTime c.ps c.slot

/-- The next conversion of the present slot ends now: 10 × (j + 1) ticks after the slot time (R14). -/
def Cycle.conversionDue (c : Cycle) : Bool :=
  !c.conversions.isEmpty && c.ticks == slotTime c.ps (c.slot - 1) + 10 * (c.converted + 1)

/-- The cycle completes now: P_s ticks after its start (R13, R18), when every slot has fallen and ended. -/
def Cycle.completionDue (c : Cycle) : Bool := c.ticks == c.ps && c.slot == 32 && c.conversions.isEmpty

/-- A sample slot falls (R13, R14). -/
def Cycle.takeSlot (c : Cycle) : Cycle :=
  { c with slot := c.slot + 1, conversions := c.slotConversions, converted := 0 }

/-- One code of a listed channel enters its sums (R16). -/
def ChannelSums.add (code : Code) (x : ChannelSums) : ChannelSums :=
  { x with sum := x.sum + code.toNat
           clip := x.clip || code == 0 || code == 4095
           allLow := x.allLow && code.toNat ≤ 4
           allHigh := x.allHigh && 4091 ≤ code.toNat }

/-- The stuck mark (R16): all thirty-two codes 4 or less, or all thirty-two 4091 or more. -/
def ChannelSums.stuck (x : ChannelSums) : Bool := x.allLow || x.allHigh

/-- The conversion in hand yields a code (R16, R17). -/
def Cycle.takeCode (code : Code) (c : Cycle) : Cycle :=
  match c.conversions with
  | [] => c
  | .channel i :: rest =>
    { c with conversions := rest, converted := c.converted + 1
             sums := c.sums.map fun x => if x.chan = i then x.add code else x }
  | .reference :: rest =>
    { c with conversions := rest, converted := c.converted + 1, refSum := c.refSum + code.toNat }
  | .ground :: rest =>
    { c with conversions := rest, converted := c.converted + 1, gndSum := c.gndSum + code.toNat }

/-- Capture Memory collects one code of one channel (R115). -/
def FrameChannel.add (code : Code) (x : FrameChannel) : FrameChannel :=
  { x with codes := x.codes ++ [code], clip := x.clip || code == 0 || code == 4095 }

/-- A code is handed to the frame in progress (R16); a frame whose kept mark is clear collects nothing (R115). -/
def OpenFrame.collect (i : Fin 16) (code : Code) (f : OpenFrame) : OpenFrame :=
  if f.kept then
    { f with frame := { f.frame with
        channels := f.frame.channels.map fun x => if x.chan = i then x.add code else x } }
  else f

/-- SAMPLE_SLOT (R13, R14). -/
def execSampleSlot (s : State) : Host.Outcome State Fault Refusal :=
  .next (match s.scanner.cycle with
    | some c =>
      if s.isRunning && c.slotDue then s.setScanner { s.scanner with cycle := some c.takeSlot } else s
    | none => s)

/-- CONVERSION_COMPLETE (R14 to R17): reference and ground codes are not handed to Capture Memory. -/
def execConversionComplete (microvolts : Int) (s : State) : Host.Outcome State Fault Refusal :=
  .next (match s.scanner.cycle with
    | some c =>
      if s.isRunning && c.conversionDue then
        let code := adcCode microvolts
        let s1 := s.setScanner { s.scanner with cycle := some (c.takeCode code) }
        match c.conversions with
        | .channel i :: _ => s1.setCapture { s.capture with current := s.capture.current.map (·.collect i code) }
        | _ => s1
      else s
    | none => s)

end Sys2Proof.Machine
end

