-- ==== Sys2Proof/Machine/Conditioner.lean ====
section
/-! DEFINITION. The Channel Conditioner (sections 2.1 to 2.5): channel entries, fault runs, the epoch accumulator,
step detection, the epoch results, and the self-check. -/

namespace Sys2Proof.Machine

/-! ## One channel entry -/

/-- The cycle mean Cq = floor((S_c + 1) / 2) (R16, R22). -/
def cycleMean (sum : Nat) : Nat := (sum + 1) / 2

/-- The channel state after the runs have moved (R23). -/
def nextChannelState (st : ChannelState) (stuckRun cleanRun : Nat) : ChannelState :=
  match st with
  | .disabled => .disabled
  | .ok => if stuckRun = 3 then .fault else .ok
  | .fault => if cleanRun = 3 then .ok else .fault

/-- The stuck mark moves the runs and the channel state (R23). -/
def ChannelRecord.moveRuns (stuck : Bool) (r : ChannelRecord) : ChannelRecord :=
  let stuckRun := if stuck then min 3 (r.stuckRun + 1) else 0
  let cleanRun := if stuck then 0 else min 3 (r.cleanRun + 1)
  { r with stuckRun := stuckRun, cleanRun := cleanRun, state := nextChannelState r.state stuckRun cleanRun }

/-- A non-stuck cycle contributes to the accumulator (R24). -/
def ChannelRecord.contribute (sum : Nat) (clip degraded : Bool) (r : ChannelRecord) : ChannelRecord :=
  { r with sum := r.sum + sum, count := r.count + 1, clipSeen := r.clipSeen || clip,
           degradedSeen := r.degradedSeen || degraded }

/-- A channel takes its entry of a cycle record (R22): a DISABLED channel ignores it. -/
def ChannelRecord.takeEntry (x : ChannelSums) (degraded : Bool) (r : ChannelRecord) : ChannelRecord :=
  if r.state = .disabled then r
  else
    let r1 := { (r.moveRuns x.stuck) with lastCq := cycleMean x.sum }
    if x.stuck then r1 else r1.contribute x.sum x.clip degraded

/-- The notice of a change between OK and FAULT (R23). -/
def faultNotice (i : Fin 16) (old new : ChannelState) : List NoticeBody :=
  match old, new with
  | .ok, .fault => [.channelFault i]
  | .fault, .ok => [.channelRecovered i]
  | _, _ => []

/-- The step detector's comparison (R30), against the last valid Mq; of what it reads, the taking of an entry changes
nothing. -/
def ChannelRecord.steps (x : ChannelSums) (threshold : Nat) (r : ChannelRecord) : Bool :=
  match r.lastValid with
  | none => false
  | some (mq, _) =>
    r.state != .disabled && !x.stuck && threshold != 0
      && 16 * threshold ≤ ((cycleMean x.sum : Int) - (mq : Int)).natAbs

/-- The Conditioner takes one channel entry of the record of `c` (R22 to R24). -/
def State.takeEntry (c : Cycle) (s : State) (x : ChannelSums) : State :=
  let r := s.cond.channels.get x.chan
  let r1 := r.takeEntry x c.degraded
  (s.setCond { s.cond with channels := s.cond.channels.set x.chan r1 }).notifyAll
    (faultNotice x.chan r.state r1.state)

/-- The STEP triggers of the record of `c`, one for each channel that steps, in the record's order (R30, R31). -/
def State.stepTriggers (c : Cycle) (s : State) : List Trigger :=
  (c.sums.filter fun x =>
    (s.cond.channels.get x.chan).steps x (s.applied.channels.get x.chan).stepThreshold).map fun x =>
      { cause := .step x.chan, cycle := c.number, epoch := s.cond.epochNumber }

/-! ## The self-check -/

/-- A self-check mean: the sum divided by 32, rounded half up (R36). -/
def checkMean (sum : Nat) : Nat := (sum + 16) / 32

/-- The check passes when the reference mean lies within 1926..2006 and the ground mean is 40 or less (R36). -/
def checkPasses (refMean gndMean : Nat) : Bool := 1926 ≤ refMean && refMean ≤ 2006 && gndMean ≤ 40

/-- A SELF CHECK RESULT is queued for a requested check, and for an automatic one whose verdict differs from the
verdict it replaced (R37). -/
def checkReports (origin : Option Origin) (old new : Verdict) : Bool := origin == some .request || old != new

/-- The verdict of the self-check that the completed cycle `c` carried (R36, R37). -/
def State.takeVerdict (c : Cycle) (s : State) : State :=
  if c.selfCheck then
    let refMean := checkMean c.refSum
    let gndMean := checkMean c.gndSum
    let pass := checkPasses refMean gndMean
    let verdict : Verdict := if pass then .pass else .fail
    let s1 := s.setCond { s.cond with
      selfCheck := if pass then .pass else .fail, verdict := verdict, autoCount := 0, origin := none }
    if checkReports s.cond.origin s.cond.verdict verdict then s1.notify (.selfCheckResult pass refMean gndMean)
    else s1
  else s

/-- The Conditioner takes the next entry of the record alone (R22). -/
def State.takeNextEntry (s : State) : State :=
  match s.scanner.cycle, s.flight.entries with
  | some c, x :: rest => (s.setFlight { s.flight with entries := rest }).takeEntry c x
  | none, _ | _, [] => s

/-- The Conditioner takes what it has not yet taken of the record: the entries in ascending order, then the self-check
part, then the epoch cycle counter (R22 to R25, R36). -/
def State.takeRecord (s : State) : State :=
  match s.scanner.cycle with
  | none => s
  | some c =>
    let s1 := (s.flight.entries.foldl (State.takeEntry c) (s.setFlight { s.flight with entries := [] })).takeVerdict c
    s1.setCond { s1.cond with epochCycles := s1.cond.epochCycles + 1 }

/-! ## The epoch -/

/-- The epoch mean Mq = floor((Σ + K) / (2K)) (R26). -/
def epochMean (sum k : Nat) : Nat := (sum + k) / (2 * k)

/-- The channel current of an epoch mean: D × G / 65536, rounded half away from zero and clamped (R27). -/
def channelCurrent (item : ChannelItem) (mq : Nat) : Int :=
  clampInt (-32767) 32767 (roundHalfAway (((mq : Int) - 32768 - item.trim) * item.gain) 65536)

/-- The last epoch result that an OK or FAULT channel sets when an epoch completes (R28). -/
def ChannelRecord.epochResult (item : ChannelItem) (r : ChannelRecord) : ChannelResult :=
  if r.count = 0 then
    match r.lastValid with
    | some (mq, i) =>
      { mq := mq, current := i, k := 0, held := true, clipped := false, degraded := false, neverValid := false }
    | none => .never
  else
    let mq := epochMean r.sum r.count
    { mq := mq, current := channelCurrent item mq, k := r.count, held := false, clipped := r.clipSeen,
      degraded := r.degradedSeen, neverValid := false }

/-- A channel at the epoch completion (R26 to R28): its result is set, a valid result becomes the last valid pair,
and the accumulator is cleared; a DISABLED channel keeps its record. -/
def ChannelRecord.closeEpoch (item : ChannelItem) (r : ChannelRecord) : ChannelRecord :=
  if r.state = .disabled then r
  else
    let res := r.epochResult item
    { r with
      result := res
      lastValid := if r.count = 0 then r.lastValid else some (res.mq, res.current)
      sum := 0, count := 0, clipSeen := false, degradedSeen := false }

/-- The automatic self-check at an epoch completion (R35), with the interval in force for the ended epoch. -/
def Conditioner.autoCheck (interval : Nat) (c : Conditioner) : Conditioner :=
  match c.selfCheck with
  | .scheduled | .running => c
  | .none | .pass | .fail =>
    let n := min 3600 (c.autoCount + 1)
    if interval ≠ 0 ∧ interval ≤ n then
      { c with autoCount := n, selfCheck := .scheduled, origin := some .automatic }
    else { c with autoCount := n }

/-- The Conditioner's own steps of an epoch completion (R25): the counter, the results, the automatic count, the
epoch number. -/
def State.closeEpoch (s : State) : State :=
  let c : Conditioner := { s.cond with
    epochCycles := 0
    channels := .ofFn fun i => (s.cond.channels.get i).closeEpoch (s.applied.channels.get i) }
  let c1 := c.autoCheck s.applied.general.checkInterval
  s.setCond { c1 with epochNumber := c1.epochNumber + 1 }

/-! ## A settings apply (R32) -/

/-- A channel's record across an apply, by how its CHANNEL item changed (R32). -/
def ChannelRecord.apply (old new : ChannelItem) (r : ChannelRecord) : ChannelRecord :=
  match old.enabled, new.enabled with
  | false, true => .blank .ok
  | true, false => .disabled
  | _, _ => r

/-! ## SELF CHECK (R34) -/

/-- The Conditioner takes a SELF CHECK request. -/
def State.takeSelfCheck (s : State) : State × Answer :=
  match s.cond.selfCheck with
  | .scheduled | .running => (s, .now .busy [])
  | .none | .pass | .fail =>
    (s.setCond { s.cond with selfCheck := .scheduled, origin := some .request }, doneEmpty)

/-- SELF_CHECK (R34). -/
def execSelfCheck (tag : Byte) (payload : List Byte) (hrdy : Bool) (s : State) : Host.Outcome State Fault Refusal :=
  .next (s.serve .selfCheck State.takeSelfCheck tag payload hrdy)

end Sys2Proof.Machine
end

