-- ==== Sys2Proof/Machine/TransformerTable.lean ====
section
/-! DEFINITION. The Transformer Table (chapter 3): the effective current of a slot and its quality flags, and the
class of a slot at a settings apply. -/

namespace Sys2Proof.Machine

/-- The weighted sum X of a slot's terms, in units of 1/1024 dA (R44). -/
def weightedSum (chans : Table 16 ChannelRecord) (terms : List Term) : Int :=
  (terms.map fun w => w.weight * (chans.get w.chan).result.current).sum

/-- I_eff = X / 1024, rounded half away from zero, then clamped to −32767..+32767 (R45). -/
def effectiveCurrent (x : Int) : Int := clampInt (-32767) 32767 (roundHalfAway x 1024)

/-- The slot's effective current and quality flags from the epoch result set (R43 to R46). -/
def slotCurrent (chans : Table 16 ChannelRecord) (terms : List Term) : SlotCurrent :=
  { ieff := effectiveCurrent (weightedSum chans terms)
    held := terms.any fun w => (chans.get w.chan).result.held
    clipped := terms.any fun w => (chans.get w.chan).result.clipped
    degraded := terms.any fun w => (chans.get w.chan).result.degraded }

/-- The class of a slot at an apply (R48). -/
inductive SlotClass where
  | newlyDefined
  | changed
  | unchanged
  | removed
  | notDefined
deriving DecidableEq, Repr

/-- R48: the definition of slot t compared by value, field by field, in the old and the new applied settings. -/
def slotClass (old new : Settings) (t : Fin 8) : SlotClass :=
  match (old.transformers.get t).defined, (new.transformers.get t).defined with
  | false, false => .notDefined
  | false, true => .newlyDefined
  | true, false => .removed
  | true, true =>
    if old.transformers.get t = new.transformers.get t ∧ old.curves.get t = new.curves.get t ∧
        old.monitors.get t = new.monitors.get t then .unchanged
    else .changed

/-- The evaluator record of a changed slot: the level kept, previous demands and runs 0 (R51). -/
def Grade.restart (g : Grade) : Grade :=
  { level := g.level, prevC := 0, prevR := 0, prevE := 0, up := 0, upMin := 0, down := 0, downMax := 0 }

/-- A slot's state across an apply, by its class (R50 to R53). -/
def Slot.apply (k : SlotClass) (x : Slot) : Slot :=
  match k with
  | .newlyDefined | .removed => .zero
  | .changed => { x with grade := x.grade.restart }
  | .unchanged | .notDefined => x

end Sys2Proof.Machine
end

