-- ==== Sys2Proof/Machine/ThermalUnit.lean ====
section
/-! DEFINITION. The Thermal and Exposure Unit (chapter 4): the target from the curve, the rise step, exposure and
its saturation, and the requests PRESET THERMAL and CLEAR EXPOSURE. -/

namespace Sys2Proof.Machine

/-- The largest exposure (R57). -/
def exposureMax : Nat := 4294967295

/-- The target for a current a, reading the curve on from the point `prev` (R59). -/
def targetFrom (prev : Breakpoint) (a : Nat) : List Breakpoint → Nat
  | [] => prev.rise
  | p :: rest =>
    if a < p.current then
      prev.rise + roundHalfUp ((a - prev.current) * (p.rise - prev.rise)) (p.current - prev.current)
    else targetFrom p a rest

/-- The target T of a curve at a = |I_eff|, from the implicit point (0, 0) (R58, R59). -/
def curveTarget (curve : List Breakpoint) (a : Nat) : Nat := targetFrom { current := 0, rise := 0 } a curve

/-- The top rise R_n of a curve (R58); 0, the rise of the implicit point, for a curve without breakpoints, which no
defined slot has (notes/assumptions/15.md). -/
def topRise (curve : List Breakpoint) : Nat := (curve.getLast?.map (·.rise)).getD 0

/-- The rise after a thermal step toward t (R60). -/
def riseStep (item : TransformerItem) (t r : Nat) : Nat :=
  if r < t then r + ceilDiv (t - r) item.tauUp else r - ceilDiv (r - t) item.tauDown

/-- The exposure after a thermal step (R62). -/
def exposureStep (floor a e : Nat) : Nat := min exposureMax (e + (a - floor))

/-- The thermal step of one slot (R57, R59, R60, R62, R63). -/
def Thermal.step (item : TransformerItem) (curve : List Breakpoint) (a : Nat) (x : Thermal) : Thermal :=
  let t := curveTarget curve a
  let e := exposureStep item.floor a x.exposure
  { target := t, rise := riseStep item t x.rise, exposure := e, satReported := x.satReported || e == exposureMax }

/-- Whether the thermal step of `x` that left `y` reports saturation (R63): E stands at the maximum and the mark
was clear. -/
def Thermal.reports (x y : Thermal) : Bool := y.exposure == exposureMax && !x.satReported

/-- PRESET THERMAL stores a rise clamped to the curve top and an exposure (R63, R65). -/
def Thermal.preset (top rise exposure : Nat) (x : Thermal) : Thermal :=
  { x with rise := min rise top, exposure := exposure
           satReported := if exposure < exposureMax then false else x.satReported }

/-- CLEAR EXPOSURE of one slot (R67). -/
def Thermal.clear (x : Thermal) : Thermal := { x with exposure := 0, satReported := false }

/-- One slot's thermal record is replaced. -/
def State.modifyThermal (t : Fin 8) (f : Thermal → Thermal) (s : State) : State :=
  s.setSlots (s.slots.modify t fun x => { x with thermal := f x.thermal })

/-- The unit takes a PRESET THERMAL request (R65): slot at offset 0, rise at 1, exposure at 3. -/
def State.takePresetThermal (p : List Byte) (s : State) : State × Answer :=
  match slotOf (u8 p 0) with
  | none => (s, refuseField .presetThermal 1)
  | some t =>
    if s.isDefined t then
      (s.modifyThermal t (Thermal.preset (topRise (s.applied.curves.get t)) (u16 p 1) (u32 p 3)), doneEmpty)
    else (s, refuseState)

/-- The unit takes a CLEAR EXPOSURE request (R67). -/
def State.takeClearExposure (p : List Byte) (s : State) : State × Answer :=
  match selectorOf (u8 p 0) with
  | none => (s, refuseField .clearExposure 1)
  | some (.one t) => if s.isDefined t then (s.modifyThermal t Thermal.clear, doneEmpty) else (s, refuseState)
  | some .all =>
    (s.setSlots (.ofFn fun t =>
      let x := s.slots.get t
      if s.isDefined t then { x with thermal := x.thermal.clear } else x), doneEmpty)

/-- PRESET_THERMAL (R65). -/
def execPresetThermal (tag : Byte) (payload : List Byte) (hrdy : Bool) (s : State) :
    Host.Outcome State Fault Refusal :=
  .next (s.serve .presetThermal (State.takePresetThermal payload) tag payload hrdy)

/-- CLEAR_EXPOSURE (R67). -/
def execClearExposure (tag : Byte) (payload : List Byte) (hrdy : Bool) (s : State) :
    Host.Outcome State Fault Refusal :=
  .next (s.serve .clearExposure (State.takeClearExposure payload) tag payload hrdy)

end Sys2Proof.Machine
end

