-- ==== Sys2Proof/Machine/Alarm.lean ====
section
/-! DEFINITION. The Alarm Evaluator (chapter 5): monitors and demands, persistence, and level changes. -/

namespace Sys2Proof.Machine

/-- Whether level n with threshold θ qualifies (R73); a threshold of 0 is unused (R72). -/
def qualifies (n : Level) (theta h value : Nat) (prev : Level) : Bool :=
  theta != 0 && (decide (theta ≤ value) || (decide (n ≤ prev) && decide (theta - h ≤ value)))

/-- The demand of a monitor: the highest level that qualifies, or 0 (R73). -/
def demand (th : Thresholds) (h value : Nat) (prev : Level) : Level :=
  if qualifies 3 th.l3 h value prev then 3
  else if qualifies 2 th.l2 h value prev then 2
  else if qualifies 1 th.l1 h value prev then 1
  else 0

/-- The three monitors form and record their demands (R72, R73, R75): the current monitor on a, the rise monitor
on R, and the exposure monitor on E with no hysteresis. -/
def Grade.takeDemands (m : MonitorsItem) (a r e : Nat) (g : Grade) : Grade :=
  { g with prevC := demand m.c m.hC a g.prevC
           prevR := demand m.r m.hR r g.prevR
           prevE := demand m.e 0 e g.prevE }

/-- The slot demand: the highest of the three monitor demands (R76). -/
def Grade.slotDemand (g : Grade) : Level := max g.prevC (max g.prevR g.prevE)

/-- The slot demand stands above the live level (R77). -/
def Grade.rising (pUp : Nat) (dem : Level) (g : Grade) : Grade :=
  let u := if g.up = 0 then 1 else g.up + 1
  let m := if g.up = 0 then dem else min g.upMin dem
  if u = pUp then { g with level := m, up := 0, upMin := 0, down := 0, downMax := 0 }
  else { g with up := u, upMin := m, down := 0, downMax := 0 }

/-- The slot demand stands below the live level (R78). -/
def Grade.falling (pDown : Nat) (dem : Level) (g : Grade) : Grade :=
  let d := if g.down = 0 then 1 else g.down + 1
  let m := if g.down = 0 then dem else max g.downMax dem
  if d = pDown then { g with level := m, up := 0, upMin := 0, down := 0, downMax := 0 }
  else { g with up := 0, upMin := 0, down := d, downMax := m }

/-- Persistence takes the slot demand against the live level (R77 to R79). -/
def Grade.persist (m : MonitorsItem) (dem : Level) (g : Grade) : Grade :=
  if g.level < dem then g.rising m.pUp dem
  else if dem < g.level then g.falling m.pDown dem
  else { g with up := 0, upMin := 0, down := 0, downMax := 0 }

/-- The grading of a slot (R71). -/
def Grade.evaluate (m : MonitorsItem) (a r e : Nat) (g : Grade) : Grade :=
  let g1 := g.takeDemands m a r e
  g1.persist m g1.slotDemand

/-- Whether a monitor with this demand is named in the monitor set of a change from `old` to `new` (R82, R83). -/
def namesMonitor (old new dem : Level) : Bool :=
  if old < new then decide (new ≤ dem) else decide (1 ≤ new) && dem == new

/-- The LEVEL CHANGED notice of a level change that left the record `g` (R82, R83). -/
def levelNotice (t : Fin 8) (old : Level) (g : Grade) : NoticeBody :=
  .levelChanged t old g.level (namesMonitor old g.level g.prevC) (namesMonitor old g.level g.prevR)
    (namesMonitor old g.level g.prevE)

/-- Whether a level change is a LEVEL trigger (R86). -/
def levelTriggers (captureLevel old new : Level) : Bool :=
  decide (old < new) && captureLevel != 0 && decide (captureLevel ≤ new)

end Sys2Proof.Machine
end

