-- ==== Sys2Proof/Machine/Annunciation.lean ====
section
/-! DEFINITION. The Annunciator (chapter 6): annunciation states, acknowledgement, the horn, its tone and the chirp,
the lamp positions and the beat. -/

namespace Sys2Proof.Machine

/-! ## One slot's annunciation state -/

/-- Entry to FLASHING at a level (R92, R94, R95). -/
def Signal.flashAt (n : Level) : Signal := { state := .flashing, flash := n, acked := 0 }

/-- The Annunciator takes a level change under the applied A (R92 to R94); the second part says whether the
horn-silenced mark is cleared (R102). -/
def Signal.levelChange (A old new : Level) (x : Signal) : Signal × Bool :=
  match x.state with
  | .quiet | .ringback => if A ≤ new then (.flashAt new, true) else (x, false)
  | .flashing => if old < new ∧ x.flash < new then ({ x with flash := new }, true) else (x, false)
  | .steady =>
    if new < A then ({ x with state := .ringback }, false)
    else if x.acked < new then (.flashAt new, true)
    else (x, false)

/-- A defined slot at live level n is re-evaluated against a new A (R95); the second part as above. -/
def Signal.newA (A n : Level) (x : Signal) : Signal × Bool :=
  match x.state with
  | .quiet | .ringback => if A ≤ n then (.flashAt n, true) else (x, false)
  | .steady => if n < A then ({ x with state := .ringback }, false) else (x, false)
  | .flashing => (x, false)

/-- An acknowledgement acts on a slot at live level n (R96). -/
def Signal.acknowledge (A n : Level) (x : Signal) : Signal :=
  match x.state with
  | .flashing =>
    if A ≤ n then { state := .steady, flash := 0, acked := n } else { state := .quiet, flash := 0, acked := 0 }
  | .ringback => { x with state := .quiet, acked := 0 }
  | .steady | .quiet => x

/-- Whether an acknowledgement changes a slot in this state (R96). -/
def Signal.ackChanges (x : Signal) : Bool :=
  match x.state with
  | .flashing | .ringback => true
  | .steady | .quiet => false

/-! ## The horn (R102 to R106) -/

/-- The higher of two levels that may be absent. -/
def higherOf (a : Option Level) (b : Level) : Option Level :=
  match a with
  | none => some b
  | some x => some (max x b)

/-- The highest flash level among the FLASHING slots; none when no slot is FLASHING (R103). -/
def highestFlash (slots : Table 8 Slot) : Option Level :=
  slots.cells.foldl (fun acc x => if x.signal.state = .flashing then higherOf acc x.signal.flash else acc) none

/-- The level whose pattern is in use, while the horn request is true (R103): some slot is FLASHING and the
horn-silenced mark is clear. -/
def State.hornKey (s : State) : Option Level := if s.ann.silenced then none else highestFlash s.slots

/-- The horn request (R103). -/
def State.hornRequest (s : State) : Bool := s.hornKey.isSome

/-- The horn pattern of a level; level 0 has none (notes/assumptions/15.md). -/
def AnnunciatorItem.hornPattern (i : AnnunciatorItem) (n : Level) : Pattern :=
  if n = 1 then i.horn1 else if n = 2 then i.horn2 else if n = 3 then i.horn3 else { steps := 0, width := 1 }

/-- What the horn line carries (R104): the chirp tone, the horn tone, or nothing. -/
def State.lineSource (s : State) : Option ToneSource :=
  if 0 < s.ann.chirp then some .chirp
  else
    match s.hornKey with
    | some n => if (s.applied.annunciator.hornPattern n).steps.getLsbD s.ann.hornPos then some .horn else none
    | none => none

/-- The divisor of a tone index (R105). -/
def toneDivisor (index : Nat) : Nat := [12, 15, 16, 20, 24, 30, 32, 40].getD index 12

/-- The high time: divisor × (9 − loudness) / 16, rounded half up (R105). -/
def highTime (divisor loudness : Nat) : Nat := roundHalfUp (divisor * (9 - loudness)) 16

/-- The tone index a source uses (R104). -/
def AnnunciatorItem.toneIndex (i : AnnunciatorItem) : ToneSource → Nat
  | .chirp => i.chirpTone
  | .horn => i.hornTone

/-- A tone period begins, high, with the tone index and loudness as they stand in the applied settings (R105). -/
def AnnunciatorItem.period (i : AnnunciatorItem) (src : ToneSource) : Tone :=
  { source := src, divisor := toneDivisor (i.toneIndex src)
    highTime := highTime (toneDivisor (i.toneIndex src)) i.loudness, high := true }

/-- The line follows its source (R104): a tone that goes on is not broken; another begins with the high part. -/
def State.reformTone (s : State) : State :=
  match s.lineSource with
  | none => s.setAnn { s.ann with tone := none }
  | some src =>
    match s.ann.tone with
    | some t => if t.source = src then s else s.setAnn { s.ann with tone := some (s.applied.annunciator.period src) }
    | none => s.setAnn { s.ann with tone := some (s.applied.annunciator.period src) }

/-- The horn request and the pattern in use are formed anew after an event that began in `before`: the pattern
position is 0 when the request has become true or the pattern has become that of another level (R103). -/
def State.reformPattern (s before : State) : State :=
  if s.hornKey.isSome ∧ s.hornKey ≠ before.hornKey then s.setAnn { s.ann with hornPos := 0, hornReset := true }
  else s

/-- The horn request, the pattern in use and the line are formed anew (R103, R104). -/
def State.reformHorn (s before : State) : State := (s.reformPattern before).reformTone

/-! ## Level changes and acknowledgement -/

/-- A slot's annunciation record is replaced; the horn-silenced mark is cleared if asked (R102). -/
def State.putSignal (t : Fin 8) (r : Signal × Bool) (s : State) : State :=
  let s1 := s.setSlots (s.slots.modify t fun x => { x with signal := r.1 })
  if r.2 then s1.setAnn { s1.ann with silenced := false } else s1

/-- The Annunciator takes a level change of slot t (R85, R92 to R94, R103). -/
def State.annunciate (t : Fin 8) (old new : Level) (s : State) : State :=
  (s.putSignal t ((s.slots.get t).signal.levelChange s.applied.general.annunciateAt old new)).reformHorn s

/-- The level change of slot t that the Annunciator has not taken yet (R85). -/
def Flight.changeOf (f : Flight) (t : Fin 8) : Option LevelChange := f.changes.find? fun h => h.slot = t

/-- The live level of slot t as the Annunciator has it: until it takes a level change, the level before the change, so
that an acknowledgement comes before or after the whole change (R96, R99; notes/assumptions/22.md). -/
def State.heardLevel (s : State) (t : Fin 8) : Level :=
  match s.flight.changeOf t with
  | some h => h.old
  | none => (s.slots.get t).grade.level

/-- The Annunciator takes the level change that the Evaluator handed it for slot t, if any (R85); a slot that is not
defined has none. -/
def State.hearChange (t : Fin 8) (s : State) : State :=
  let s1 := s.setFlight { s.flight with changes := s.flight.changes.filter fun h => h.slot ≠ t }
  match s.flight.changeOf t with
  | some h => if s.isDefined t then s1.annunciate t h.old h.new else s1
  | none => s1

/-- The slots an acknowledgement of the slots `sel` names changes (R96, R97). -/
def State.ackSet (sel : Fin 8 → Bool) (s : State) : Table 8 Bool :=
  .ofFn fun t => sel t && (s.slots.get t).signal.ackChanges

/-- An acknowledgement of the slots that `sel` names, made whole (R96 to R98, R100, R106): if a slot changed, one
ACKNOWLEDGED notice is queued and a chirp starts if enabled. -/
def State.acknowledgeSlots (src : AckSource) (sel : Fin 8 → Bool) (s : State) : State :=
  let changed := s.ackSet sel
  if changed.cells.any id then
    let s1 := s.setSlots (.ofFn fun t =>
      let x := s.slots.get t
      if sel t then { x with signal := x.signal.acknowledge s.applied.general.annunciateAt (s.heardLevel t) } else x)
    let s2 := s1.notify (.acknowledged src changed)
    let s3 := if s.applied.annunciator.chirpEnable then s2.setAnn { s2.ann with chirp := 2 } else s2
    s3.reformHorn s
  else s

/-- The Annunciator takes an ACKNOWLEDGE request (R97); the reply body is the slot set changed (R175). -/
def State.takeAcknowledge (p : List Byte) (s : State) : State × Answer :=
  match selectorOf (u8 p 0) with
  | none => (s, refuseField .acknowledge 1)
  | some (.one t) =>
    if s.isDefined t then
      let sel := fun u => decide (u = t)
      (s.acknowledgeSlots .request sel, .now .done [byte (bits (s.ackSet sel).cells)])
    else (s, refuseState)
  | some .all =>
    let sel := fun u => s.isDefined u
    (s.acknowledgeSlots .request sel, .now .done [byte (bits (s.ackSet sel).cells)])

/-- The Annunciator takes a SILENCE request (R102). -/
def State.takeSilence (s : State) : State × Answer :=
  (if s.hornRequest then (s.setAnn { s.ann with silenced := true }).reformHorn s else s, doneEmpty)

/-! ## The beat (R100, R101, R103, R106, R108) -/

/-- The ACKB debounce takes one sample; the second part says whether a press is taken (R100). -/
def Debounce.sample (ackb : Bool) : Debounce → Debounce × Bool
  | .idle => if ackb then (.seen, false) else (.idle, false)
  | .seen => if ackb then (.taken, true) else (.idle, false)
  | .taken => if ackb then (.taken, false) else (.idle, false)

/-- ACKB is sampled; a press taken acknowledges all defined slots (R100). -/
def State.sampleAckb (ackb : Bool) (s : State) : State :=
  let r := s.ann.debounce.sample ackb
  let s1 := s.setAnn { s.ann with debounce := r.1 }
  if r.2 then s1.acknowledgeSlots .button fun t => s.isDefined t else s1

/-- The position after one advance modulo a width. -/
def advance (w pos : Nat) : Nat := (pos + 1) % w

/-- The chirp countdown after a beat that found `before` and, once ACKB was sampled, stands at `sampled`: 2 if this
beat's acknowledgement started a chirp, else one less (R106). -/
def chirpAfter (started : Bool) (before : Nat) : Nat := if started then 2 else before - 1

/-- The horn pattern position after a beat (R103, R106): 0 when the chirp ends; advanced when the request is true,
no chirp was running before the beat, and the position has not been set to 0 at this instant. -/
def hornPosAfter (chirpBefore : Nat) (started : Bool) (sampled : State) : Nat :=
  if !started && chirpBefore == 1 then 0
  else
    match sampled.hornKey with
    | some n =>
      if chirpBefore = 0 ∧ sampled.ann.hornReset = false then
        advance (sampled.applied.annunciator.hornPattern n).width sampled.ann.hornPos
      else sampled.ann.hornPos
    | none => sampled.ann.hornPos

/-- A lamp position after a beat (R108): advanced, unless it has been set to 0 at this instant. -/
def lampPosAfter (reset : Bool) (w pos : Nat) : Nat := if reset then pos else advance w pos

/-- A beat expiry (R101). -/
def State.beat (ackb : Bool) (s : State) : State :=
  let s1 := s.sampleAckb ackb
  let pressed := (s.ann.debounce.sample ackb).2
  let started := pressed && (s.ackSet fun t => s.isDefined t).cells.any id && s.applied.annunciator.chirpEnable
  let item := s.applied.annunciator
  (s1.setAnn { s1.ann with
    chirp := chirpAfter started s.ann.chirp
    hornPos := hornPosAfter s.ann.chirp started s1
    fastPos := lampPosAfter s1.ann.lampReset item.fast.width s1.ann.fastPos
    slowPos := lampPosAfter s1.ann.lampReset item.slow.width s1.ann.slowPos
    beatTicks := 0 }).reformTone

/-- BEAT_EXPIRY (R101): it occurs when the beat counter has counted 125,000 ticks. -/
def execBeatExpiry (ackb : Bool) (s : State) : Host.Outcome State Fault Refusal :=
  .next (if s.isRunning && s.ann.beatTicks == 125000 then s.beat ackb else s)

/-- ACKNOWLEDGE (R97). -/
def execAcknowledge (tag : Byte) (payload : List Byte) (hrdy : Bool) (s : State) : Host.Outcome State Fault Refusal :=
  .next (s.serve .acknowledge (State.takeAcknowledge payload) tag payload hrdy)

/-- SILENCE (R102). -/
def execSilence (tag : Byte) (payload : List Byte) (hrdy : Bool) (s : State) : Host.Outcome State Fault Refusal :=
  .next (s.serve .silence State.takeSilence tag payload hrdy)

/-- A tone period's next edge (R105): from the high part the line falls; from the low part a new period begins
high, with the tone index and the loudness read again. -/
def Tone.edge (item : AnnunciatorItem) (t : Tone) : Tone :=
  if t.high then { t with high := false } else item.period t.source

/-- TONE_PERIOD (R105): while no tone sounds there is none to run out. -/
def execTonePeriod (s : State) : Host.Outcome State Fault Refusal :=
  .next (s.setAnn { s.ann with tone := s.ann.tone.map (Tone.edge s.applied.annunciator) })

end Sys2Proof.Machine
end

