-- ==== Sys2Proof/Machine/CaptureMemory.lean ====
section
/-! DEFINITION. Capture Memory (chapter 7): completed frames, triggers, holding, releasing and reading the ring. -/

namespace Sys2Proof.Machine

/-! ## Frames -/

/-- The newest `n` frames of a ring. -/
def newest (n : Nat) (ring : List Frame) : List Frame := ring.drop (ring.length - n)

/-- In ARMED a completed frame becomes the newest; at 48 frames the oldest is removed (R116). -/
def Capture.write (f : Frame) (c : Capture) : Capture := { c with ring := newest 48 (c.ring ++ [f]) }

/-- In TRIGGERED a completed frame is appended (R117); at post remaining 0 the ring is FROZEN. -/
def Capture.append (f : Frame) (c : Capture) : Capture :=
  { c with ring := c.ring ++ [f], post := c.post - 1, state := if c.post - 1 = 0 then .frozen else .triggered }

/-- What Capture Memory does with a completed frame (R115 to R118): a frame whose kept mark is clear is dropped. -/
def Capture.takeFrame (c : Capture) : Capture :=
  match c.current with
  | none => c
  | some f =>
    let c0 := { c with current := none }
    if f.kept then
      match c.state with
      | .armed => c0.write f.frame
      | .triggered => c0.append f.frame
      | .held | .frozen => c0
    else c0

/-- The CAPTURE FROZEN notice of the frame that froze the ring (R117). -/
def frozenNotice (before after : Capture) : List NoticeBody :=
  if before.state = .triggered ∧ after.state = .frozen then
    match after.record with
    | some r => [.captureFrozen r.cause]
    | none => []
  else []

/-- Capture Memory takes a cycle completion (R116 to R118), and grants a pending hold (R126). -/
def State.takeFrame (hrdy : Bool) (s : State) : State :=
  let c := s.capture.takeFrame
  let s1 := (s.setCapture c).notifyAll (frozenNotice s.capture c)
  if c.holdPending then
    (s1.setCapture { s1.capture with state := .held, holdPending := false }).answer .done [] hrdy
  else s1

/-! ## Triggers -/

/-- A trigger is taken, with the applied pre-trigger depth (R120). -/
def Capture.trigger (depth : Nat) (tr : Trigger) (c : Capture) : Capture :=
  { c with
    depth := depth
    ring := newest (min c.ring.length depth) c.ring
    preKept := min c.ring.length depth
    post := 48 - depth
    record := some tr
    state := .triggered }

/-- A trigger is missed (R122). -/
def Capture.miss (c : Capture) : Capture := { c with missed := min 255 (c.missed + 1), missReported := true }

/-- A LEVEL or STEP trigger reaches Capture Memory (R120 to R122); in ARMED it pre-empts a pending hold (R126). -/
def State.takeTrigger (hrdy : Bool) (s : State) (tr : Trigger) : State :=
  let c := s.capture
  let depth := s.applied.general.preDepth
  match c.state with
  | .armed =>
    let s1 := s.setCapture (c.trigger depth tr)
    if c.holdPending then (s1.setCapture { s1.capture with holdPending := false }).answer .busy [] hrdy else s1
  | .held => (s.setCapture (c.trigger depth tr)).notify (.holdRevoked tr.cause)
  | .triggered | .frozen =>
    let s1 := s.setCapture c.miss
    if c.missReported then s1 else s1.notify (.captureMissed tr.cause)

/-- Several triggers, in the order in which they are handed (R31, R87). -/
def State.takeTriggers (hrdy : Bool) (trs : List Trigger) (s : State) : State := trs.foldl (State.takeTrigger hrdy) s

/-! ## Requests -/

/-- The REQUEST trigger of a CAPTURE TRIGGER taken now (R119). -/
def State.requestTrigger (s : State) : Trigger :=
  { cause := .request, cycle := s.scanner.cycleNumber, epoch := s.cond.epochNumber }

/-- Capture Memory takes a CAPTURE TRIGGER request (R124). -/
def State.takeCaptureTrigger (s : State) : State × Answer :=
  let c1 := s.capture.trigger s.applied.general.preDepth s.requestTrigger
  match s.capture.state with
  | .armed => (s.setCapture c1, doneEmpty)
  | .held => ((s.setCapture c1).notify (.holdRevoked .request), doneEmpty)
  | .triggered | .frozen => (s, refuseState)

/-- Capture Memory takes a CAPTURE HOLD request (R125). -/
def State.takeCaptureHold (s : State) : State × Answer :=
  match s.capture.state with
  | .armed => (s.setCapture { s.capture with holdPending := true }, .wait)
  | .held | .frozen => (s, doneEmpty)
  | .triggered => (s, .now .busy [])

/-- The ring emptied and ARMED, the record, counts and marks of the capture reset (R127). -/
def Capture.release (c : Capture) : Capture :=
  { c with state := .armed, ring := [], preKept := 0, post := 0, record := none, missed := 0, missReported := false }

/-- Capture Memory takes a CAPTURE RELEASE request (R127). -/
def State.takeCaptureRelease (s : State) : State × Answer :=
  match s.capture.state with
  | .held => (s.setCapture { s.capture with state := .armed }, doneEmpty)
  | .frozen => (s.setCapture s.capture.release, doneEmpty)
  | .armed | .triggered => (s, refuseState)

/-- The CAPTURE READ body of one channel of a frame (R175). -/
def captureReadBody (f : Frame) (x : FrameChannel) : List Byte :=
  be32 f.number.toNat ++ be16 f.ps ++ [byte (bits [f.degraded, x.clip]), byte x.chan.val]
    ++ x.codes.flatMap fun k => be16 k.toNat

/-- Capture Memory takes a CAPTURE READ request (R128): the frame index is checked before the channel, whose list
is the frame's (notes/assumptions/16.md). -/
def State.takeCaptureRead (p : List Byte) (s : State) : State × Answer :=
  match s.capture.state with
  | .armed | .triggered => (s, refuseState)
  | .held | .frozen =>
    match s.capture.ring[u8 p 0]? with
    | none => (s, refuseField .captureRead 1)
    | some f =>
      match f.channels.find? fun x => x.chan.val == u8 p 1 with
      | none => (s, refuseField .captureRead 2)
      | some x => (s, .now .done (captureReadBody f x))

/-- The trigger record as CAPTURE INFO reports it, or its absent encoding (R173, R175). -/
def recordBytes : Option Trigger → List Byte
  | none => [0, 0xFF] ++ be32 0 ++ be32 0
  | some r => [r.cause.code, r.cause.subject] ++ be32 r.cycle.toNat ++ be32 r.epoch.toNat

/-- The CAPTURE INFO body (R129, R175). -/
def captureInfoBody (c : Capture) : List Byte :=
  [c.state.code, byte c.ring.length, byte c.preKept, byte c.post] ++ recordBytes c.record ++ [byte c.missed]

/-- Capture Memory takes a CAPTURE INFO request (R129). -/
def State.takeCaptureInfo (s : State) : State × Answer := (s, .now .done (captureInfoBody s.capture))

/-- What RESTART does to Capture Memory (R132, R115): emptied, ARMED, and the frame in progress no longer kept. -/
def Capture.restart (c : Capture) : Capture :=
  { c.release with depth := 0, holdPending := false, current := c.current.map fun f => { f with kept := false } }

/-- CAPTURE_TRIGGER (R124). -/
def execCaptureTrigger (tag : Byte) (payload : List Byte) (hrdy : Bool) (s : State) :
    Host.Outcome State Fault Refusal :=
  .next (s.serve .captureTrigger State.takeCaptureTrigger tag payload hrdy)

/-- CAPTURE_HOLD (R125). -/
def execCaptureHold (tag : Byte) (payload : List Byte) (hrdy : Bool) (s : State) : Host.Outcome State Fault Refusal :=
  .next (s.serve .captureHold State.takeCaptureHold tag payload hrdy)

/-- CAPTURE_RELEASE (R127). -/
def execCaptureRelease (tag : Byte) (payload : List Byte) (hrdy : Bool) (s : State) :
    Host.Outcome State Fault Refusal :=
  .next (s.serve .captureRelease State.takeCaptureRelease tag payload hrdy)

/-- CAPTURE_READ (R128). -/
def execCaptureRead (tag : Byte) (payload : List Byte) (hrdy : Bool) (s : State) : Host.Outcome State Fault Refusal :=
  .next (s.serve .captureRead (State.takeCaptureRead payload) tag payload hrdy)

/-- CAPTURE_INFO (R129). -/
def execCaptureInfo (tag : Byte) (payload : List Byte) (hrdy : Bool) (s : State) : Host.Outcome State Fault Refusal :=
  .next (s.serve .captureInfo State.takeCaptureInfo tag payload hrdy)

end Sys2Proof.Machine
end

