-- ==== Sys2Proof/Machine/SettingsItems.lean ====
section
/-! DEFINITION. The seven settings items in link frames (sections 8.2 and 11.3): the range checks of a SET request
in their order, the item a request writes, and the body that READ SETTINGS returns. Field numbers are those of
section 11.3. -/

namespace Sys2Proof.Machine

/-- A range check: the field's number, and whether the field passes. -/
abbrev FieldCheck := Nat × Bool

/-- The number of the first field that fails (R141). -/
def firstFailure : List FieldCheck → Option Nat
  | [] => none
  | (n, ok) :: rest => if ok then firstFailure rest else some n

/-- An unsigned field within lo..hi. -/
def within (lo hi x : Nat) : Bool := decide (lo ≤ x) && decide (x ≤ hi)

/-- A level of section 5 from its number. -/
def levelOf (n : Nat) : Level := Fin.ofNat 4 n

/-! ## GENERAL (R134) -/

def generalChecks (p : List Byte) : List FieldCheck :=
  [(1, within 10 120 (u8 p 0)), (2, within 0 3600 (u16 p 1)), (3, yesNoOk p 3), (4, within 1 3 (u8 p 4)),
   (5, within 0 3 (u8 p 5)), (6, within 0 47 (u8 p 6))]

def readGeneral (p : List Byte) : General :=
  { epochCycles := u8 p 0, checkInterval := u16 p 1, attention := yes p 3, annunciateAt := levelOf (u8 p 4),
    captureLevel := levelOf (u8 p 5), preDepth := u8 p 6 }

def generalBody (g : General) : List Byte :=
  [byte g.epochCycles] ++ be16 g.checkInterval
    ++ [yesNo g.attention, byte g.annunciateAt.val, byte g.captureLevel.val, byte g.preDepth]

/-! ## CHANNEL (R135) -/

def channelChecks (p : List Byte) : List FieldCheck :=
  [(0, within 0 15 (u8 p 0)), (1, yesNoOk p 1), (2, decide (-2048 ≤ s16 p 2) && decide (s16 p 2 ≤ 2047)),
   (4, within 0 2047 (u16 p 6))]

def readChannelItem (p : List Byte) : ChannelItem :=
  { enabled := yes p 1, trim := s16 p 2, gain := s16 p 4, stepThreshold := u16 p 6 }

def channelBody (i : Fin 16) (x : ChannelItem) : List Byte :=
  [byte i.val, yesNo x.enabled] ++ beInt x.trim ++ beInt x.gain ++ be16 x.stepThreshold

/-! ## TRANSFORMER (R136) -/

/-- Offset of the channel of term place k, from 0 (section 11.3). -/
def termOffset (k : Nat) : Nat := 3 + 3 * k

/-- A term place within the term count has a channel 0..15. -/
def termChannelOk (p : List Byte) (k : Nat) : Bool := decide (u8 p 2 ≤ k) || within 0 15 (u8 p (termOffset k))

/-- A term place within the term count has a weight −4096..4095 that is not 0. -/
def termWeightOk (p : List Byte) (k : Nat) : Bool :=
  let w := s16 p (termOffset k + 1)
  decide (u8 p 2 ≤ k) || (decide (-4096 ≤ w) && decide (w ≤ 4095) && w != 0)

/-- Section 8.2 lists the term channels, then the term weights (notes/assumptions/12.md). -/
def transformerChecks (p : List Byte) : List FieldCheck :=
  [(0, within 0 7 (u8 p 0)), (1, yesNoOk p 1), (2, within 0 3 (u8 p 2)),
   (3, termChannelOk p 0), (5, termChannelOk p 1), (7, termChannelOk p 2),
   (4, termWeightOk p 0), (6, termWeightOk p 1), (8, termWeightOk p 2),
   (9, within 1 65535 (u16 p 12)), (10, within 1 65535 (u16 p 14)), (11, within 0 32767 (u16 p 16))]

def readTerm (p : List Byte) (k : Nat) : Term :=
  { chan := Fin.ofNat 16 (u8 p (termOffset k)), weight := s16 p (termOffset k + 1) }

def readTransformerItem (p : List Byte) : TransformerItem :=
  { defined := yes p 1, terms := (List.range (u8 p 2)).map (readTerm p), tauUp := u16 p 12, tauDown := u16 p 14,
    floor := u16 p 16 }

/-- One term place; a place beyond the count is returned as 0 (R142). -/
def termBytes : Option Term → List Byte
  | some w => [byte w.chan.val] ++ beInt w.weight
  | none => [0, 0, 0]

def transformerBody (t : Fin 8) (x : TransformerItem) : List Byte :=
  [byte t.val, yesNo x.defined, byte x.terms.length]
    ++ termBytes x.terms[0]? ++ termBytes x.terms[1]? ++ termBytes x.terms[2]?
    ++ be16 x.tauUp ++ be16 x.tauDown ++ be16 x.floor

/-! ## CURVE (R137) -/

/-- Offset of the current of breakpoint place k, from 0; its rise follows (section 11.3). -/
def pointOffset (k : Nat) : Nat := 2 + 4 * k

/-- The checks of the currents of the places within the count, then of their rises (notes/assumptions/12.md). -/
def curveChecks (p : List Byte) : List FieldCheck :=
  [(0, within 0 7 (u8 p 0)), (1, within 0 8 (u8 p 1))]
    ++ (List.range 8).map (fun k => (2 * k + 2, decide (u8 p 1 ≤ k) || within 1 32767 (u16 p (pointOffset k))))
    ++ (List.range 8).map (fun k => (2 * k + 3, decide (u8 p 1 ≤ k) || within 0 60000 (u16 p (pointOffset k + 2))))

def readCurve (p : List Byte) : List Breakpoint :=
  (List.range (u8 p 1)).map fun k => { current := u16 p (pointOffset k), rise := u16 p (pointOffset k + 2) }

/-- One breakpoint place; a place beyond the count is returned as 0 (R142). -/
def pointBytes : Option Breakpoint → List Byte
  | some b => be16 b.current ++ be16 b.rise
  | none => [0, 0, 0, 0]

def curveBody (t : Fin 8) (points : List Breakpoint) : List Byte :=
  [byte t.val, byte points.length] ++ (List.range 8).flatMap fun k => pointBytes points[k]?

/-! ## MONITORS (R138) -/

def monitorsChecks (p : List Byte) : List FieldCheck :=
  [(0, within 0 7 (u8 p 0)),
   (1, within 0 32767 (u16 p 1)), (2, within 0 32767 (u16 p 3)), (3, within 0 32767 (u16 p 5)),
   (4, within 0 60000 (u16 p 7)), (5, within 0 60000 (u16 p 9)), (6, within 0 60000 (u16 p 11)),
   (10, within 0 32767 (u16 p 25)), (11, within 0 60000 (u16 p 27)),
   (12, within 1 16 (u8 p 29)), (13, within 1 16 (u8 p 30))]

def readMonitors (p : List Byte) : MonitorsItem :=
  { c := { l1 := u16 p 1, l2 := u16 p 3, l3 := u16 p 5 }
    r := { l1 := u16 p 7, l2 := u16 p 9, l3 := u16 p 11 }
    e := { l1 := u32 p 13, l2 := u32 p 17, l3 := u32 p 21 }
    hC := u16 p 25, hR := u16 p 27, pUp := u8 p 29, pDown := u8 p 30 }

def monitorsBody (t : Fin 8) (m : MonitorsItem) : List Byte :=
  [byte t.val] ++ be16 m.c.l1 ++ be16 m.c.l2 ++ be16 m.c.l3 ++ be16 m.r.l1 ++ be16 m.r.l2 ++ be16 m.r.l3
    ++ be32 m.e.l1 ++ be32 m.e.l2 ++ be32 m.e.l3 ++ be16 m.hC ++ be16 m.hR ++ [byte m.pUp, byte m.pDown]

/-! ## CONTACT (R139) -/

/-- Source kinds LEVEL (1) and ANY LEVEL (2) use a level; LEVEL alone uses a slot (R139). -/
def contactChecks (p : List Byte) : List FieldCheck :=
  [(0, within 0 5 (u8 p 0)), (1, yesNoOk p 1), (2, within 0 6 (u8 p 2)),
   (3, u8 p 2 != 1 || within 0 7 (u8 p 3)),
   (4, (u8 p 2 != 1 && u8 p 2 != 2) || within 1 3 (u8 p 4)),
   (5, within 0 1 (u8 p 5))]

def readSource (p : List Byte) : ContactSource :=
  match u8 p 2 with
  | 1 => .level (Fin.ofNat 8 (u8 p 3)) (levelOf (u8 p 4))
  | 2 => .anyLevel (levelOf (u8 p 4))
  | 3 => .unacknowledged
  | 4 => .horn
  | 5 => .healthy
  | 6 => .captureReady
  | _ => .none

def readContact (p : List Byte) : ContactItem :=
  { enabled := yes p 1, source := readSource p
    sense := if u8 p 5 = 1 then .deEnergizeWhenTrue else .energizeWhenTrue }

/-- The source slot and level as they are reported; 0 where the kind does not use them (R142). -/
def ContactSource.params : ContactSource → List Byte
  | .level t n => [byte t.val, byte n.val]
  | .anyLevel n => [0, byte n.val]
  | .none | .unacknowledged | .horn | .healthy | .captureReady => [0, 0]

def contactBody (k : Fin 6) (x : ContactItem) : List Byte :=
  [byte k.val, yesNo x.enabled, x.source.code] ++ x.source.params ++ [x.sense.code]

/-! ## ANNUNCIATOR (R140) -/

/-- A width is 1..16; a steps field never fails (section 11.3). -/
def annunciatorChecks (p : List Byte) : List FieldCheck :=
  [(1, within 0 7 (u8 p 0)), (2, within 1 8 (u8 p 1)), (4, within 1 16 (u8 p 4)), (6, within 1 16 (u8 p 7)),
   (8, within 1 16 (u8 p 10)), (10, within 1 16 (u8 p 13)), (12, within 1 16 (u8 p 16)), (13, yesNoOk p 17),
   (14, within 0 7 (u8 p 18))]

def readPattern (p : List Byte) (o : Nat) : Pattern := { steps := BitVec.ofNat 16 (u16 p o), width := u8 p (o + 2) }

def readAnnunciator (p : List Byte) : AnnunciatorItem :=
  { hornTone := u8 p 0, loudness := u8 p 1, horn1 := readPattern p 2, horn2 := readPattern p 5,
    horn3 := readPattern p 8, fast := readPattern p 11, slow := readPattern p 14, chirpEnable := yes p 17,
    chirpTone := u8 p 18 }

def patternBytes (x : Pattern) : List Byte := be16 x.steps.toNat ++ [byte x.width]

def annunciatorBody (x : AnnunciatorItem) : List Byte :=
  [byte x.hornTone, byte x.loudness] ++ patternBytes x.horn1 ++ patternBytes x.horn2 ++ patternBytes x.horn3
    ++ patternBytes x.fast ++ patternBytes x.slow ++ [yesNo x.chirpEnable, byte x.chirpTone]

end Sys2Proof.Machine
end

