-- ==== Sys2Proof/Machine/SettingsStore.lean ====
section
/-! DEFINITION. The Settings Store (chapter 8): SET, READ SETTINGS, COMMIT and DISCARD, and the apply with what it
does in every block. -/

namespace Sys2Proof.Machine

/-! ## SET (R141) -/

/-- The Store takes a SET request: REFUSED-STATE while SEALED; the first failing field is refused with its detail;
otherwise the item is replaced in the pending copy. `index` is the index as received. -/
def State.takeSet (k : RequestKind) (index : Nat) (checks : List FieldCheck) (write : Settings → Settings)
    (s : State) : State × Answer :=
  if s.store.isSealed then (s, refuseState)
  else
    match firstFailure checks with
    | some field => (s, .now .refusedValue (detail k.code index field))
    | none => (s.setStore { s.store with pending := write s.store.pending }, doneEmpty)

def writeGeneral (p : List Byte) (c : Settings) : Settings := { c with general := readGeneral p }

def writeChannel (p : List Byte) (c : Settings) : Settings :=
  { c with channels := c.channels.set (Fin.ofNat 16 (u8 p 0)) (readChannelItem p) }

def writeTransformer (p : List Byte) (c : Settings) : Settings :=
  { c with transformers := c.transformers.set (Fin.ofNat 8 (u8 p 0)) (readTransformerItem p) }

def writeCurve (p : List Byte) (c : Settings) : Settings :=
  { c with curves := c.curves.set (Fin.ofNat 8 (u8 p 0)) (readCurve p) }

def writeMonitors (p : List Byte) (c : Settings) : Settings :=
  { c with monitors := c.monitors.set (Fin.ofNat 8 (u8 p 0)) (readMonitors p) }

def writeContact (p : List Byte) (c : Settings) : Settings :=
  { c with contacts := c.contacts.set (Fin.ofNat 6 (u8 p 0)) (readContact p) }

def writeAnnunciator (p : List Byte) (c : Settings) : Settings := { c with annunciator := readAnnunciator p }

/-- SET_GENERAL (R141, R134). -/
def execSetGeneral (tag : Byte) (payload : List Byte) (hrdy : Bool) (s : State) : Host.Outcome State Fault Refusal :=
  .next (s.serve .setGeneral (State.takeSet .setGeneral 0 (generalChecks payload) (writeGeneral payload))
    tag payload hrdy)

/-- SET_CHANNEL (R141, R135). -/
def execSetChannel (tag : Byte) (payload : List Byte) (hrdy : Bool) (s : State) : Host.Outcome State Fault Refusal :=
  .next (s.serve .setChannel
    (State.takeSet .setChannel (u8 payload 0) (channelChecks payload) (writeChannel payload)) tag payload hrdy)

/-- SET_TRANSFORMER (R141, R136). -/
def execSetTransformer (tag : Byte) (payload : List Byte) (hrdy : Bool) (s : State) :
    Host.Outcome State Fault Refusal :=
  .next (s.serve .setTransformer
    (State.takeSet .setTransformer (u8 payload 0) (transformerChecks payload) (writeTransformer payload))
    tag payload hrdy)

/-- SET_CURVE (R141, R137). -/
def execSetCurve (tag : Byte) (payload : List Byte) (hrdy : Bool) (s : State) : Host.Outcome State Fault Refusal :=
  .next (s.serve .setCurve
    (State.takeSet .setCurve (u8 payload 0) (curveChecks payload) (writeCurve payload)) tag payload hrdy)

/-- SET_MONITORS (R141, R138). -/
def execSetMonitors (tag : Byte) (payload : List Byte) (hrdy : Bool) (s : State) : Host.Outcome State Fault Refusal :=
  .next (s.serve .setMonitors
    (State.takeSet .setMonitors (u8 payload 0) (monitorsChecks payload) (writeMonitors payload)) tag payload hrdy)

/-- SET_CONTACT (R141, R139). -/
def execSetContact (tag : Byte) (payload : List Byte) (hrdy : Bool) (s : State) : Host.Outcome State Fault Refusal :=
  .next (s.serve .setContact
    (State.takeSet .setContact (u8 payload 0) (contactChecks payload) (writeContact payload)) tag payload hrdy)

/-- SET_ANNUNCIATOR (R141, R140). -/
def execSetAnnunciator (tag : Byte) (payload : List Byte) (hrdy : Bool) (s : State) :
    Host.Outcome State Fault Refusal :=
  .next (s.serve .setAnnunciator
    (State.takeSet .setAnnunciator 0 (annunciatorChecks payload) (writeAnnunciator payload)) tag payload hrdy)

/-! ## READ SETTINGS (R142) -/

/-- The body of an item of a copy by its kind code and index (R142): none for a code that names no kind, some none
for an index the kind does not have. A kind code is that of the item's SET request (section 11.2). -/
def itemBody (c : Settings) (kind index : Nat) : Option (Option (List Byte)) :=
  if kind = 0x10 then some (if index = 0 then some (generalBody c.general) else none)
  else if kind = 0x11 then
    some (if h : index < 16 then some (channelBody ⟨index, h⟩ (c.channels.get ⟨index, h⟩)) else none)
  else if kind = 0x12 then
    some (if h : index < 8 then some (transformerBody ⟨index, h⟩ (c.transformers.get ⟨index, h⟩)) else none)
  else if kind = 0x13 then
    some (if h : index < 8 then some (curveBody ⟨index, h⟩ (c.curves.get ⟨index, h⟩)) else none)
  else if kind = 0x14 then
    some (if h : index < 8 then some (monitorsBody ⟨index, h⟩ (c.monitors.get ⟨index, h⟩)) else none)
  else if kind = 0x15 then
    some (if h : index < 6 then some (contactBody ⟨index, h⟩ (c.contacts.get ⟨index, h⟩)) else none)
  else if kind = 0x16 then some (if index = 0 then some (annunciatorBody c.annunciator) else none)
  else none

/-- The Store takes a READ SETTINGS request (R142): item kind (field 1), index (2), copy selector (3). That they are
checked in this order, so that the first failing one is named where several fail, is the model's choice
(notes/assumptions/16.md). -/
def State.takeReadSettings (p : List Byte) (s : State) : State × Answer :=
  let copy := if u8 p 2 = 0 then s.store.pending else s.store.applied
  match itemBody copy (u8 p 0) (u8 p 1) with
  | none => (s, refuseField .readSettings 1)
  | some none => (s, refuseField .readSettings 2)
  | some (some body) => if u8 p 2 ≤ 1 then (s, .now .done body) else (s, refuseField .readSettings 3)

/-- READ_SETTINGS (R142). -/
def execReadSettings (tag : Byte) (payload : List Byte) (hrdy : Bool) (s : State) :
    Host.Outcome State Fault Refusal :=
  .next (s.serve .readSettings (State.takeReadSettings payload) tag payload hrdy)

/-! ## COMMIT (R143, R144) -/

/-- A failure of a COMMIT check: item kind, index, field. -/
structure CommitFailure where
  kind : RequestKind
  index : Nat
  field : Nat
deriving DecidableEq, Repr

/-- The first term, in list order, whose channel repeats an earlier one's or is not enabled (R144); `k` is its
place from 1, and its channel's field number is 2k + 1. -/
def termFailure (c : Settings) (earlier : List (Fin 16)) (k : Nat) : List Term → Option Nat
  | [] => none
  | w :: rest =>
    if w.chan ∈ earlier ∨ (c.channels.get w.chan).enabled = false then some (2 * k + 1)
    else termFailure c (w.chan :: earlier) (k + 1) rest

/-- TRANSFORMER t (R144). -/
def transformerFailure (c : Settings) (t : Fin 8) : Option CommitFailure :=
  let x := c.transformers.get t
  if x.defined then
    (if x.terms.length = 0 then some 2 else termFailure c [] 1 x.terms).map fun f => ⟨.setTransformer, t.val, f⟩
  else none

/-- The first breakpoint, from the k-th on, whose current is not above or whose rise is below that of the one
before (R144); its current is field 2k and its rise field 2k + 1. -/
def pointFailure (prev : Breakpoint) (k : Nat) : List Breakpoint → Option Nat
  | [] => none
  | b :: rest =>
    if b.current ≤ prev.current then some (2 * k)
    else if b.rise < prev.rise then some (2 * k + 1)
    else pointFailure b (k + 1) rest

/-- The first failing field of a curve (R144). -/
def curveFieldFailure : List Breakpoint → Option Nat
  | [] => some 1
  | b :: rest => pointFailure b 2 rest

/-- CURVE t (R144). -/
def curveFailure (c : Settings) (t : Fin 8) : Option CommitFailure :=
  if (c.transformers.get t).defined then
    (curveFieldFailure (c.curves.get t)).map fun f => ⟨.setCurve, t.val, f⟩
  else none

/-- A used threshold stands above a lower one if that is used (R72, R144). -/
def above (x lower : Nat) : Bool := lower == 0 || decide (lower < x)

/-- The first failing field of one monitor whose level 1 threshold has field number `f` (R144). -/
def thresholdFailure (f : Nat) (x : Thresholds) : Option Nat :=
  if x.l2 != 0 && !above x.l2 x.l1 then some (f + 1)
  else if x.l3 != 0 && !(above x.l3 x.l1 && above x.l3 x.l2) then some (f + 2)
  else none

/-- MONITORS t (R144): the current monitor, then the rise monitor, then the exposure monitor. -/
def monitorsFailure (c : Settings) (t : Fin 8) : Option CommitFailure :=
  let m := c.monitors.get t
  if (c.transformers.get t).defined then
    ((thresholdFailure 1 m.c).or ((thresholdFailure 4 m.r).or (thresholdFailure 7 m.e))).map
      fun f => ⟨.setMonitors, t.val, f⟩
  else none

/-- CONTACT k (R144): a LEVEL source names a defined slot, whether the contact is enabled or not. -/
def contactFailure (c : Settings) (k : Fin 6) : Option CommitFailure :=
  match (c.contacts.get k).source with
  | .level t _ => if (c.transformers.get t).defined then none else some ⟨.setContact, k.val, 3⟩
  | .none | .anyLevel _ | .unacknowledged | .horn | .healthy | .captureReady => none

/-- The first failure of COMMIT's checks, in the order of R144. -/
def commitFailure (c : Settings) : Option CommitFailure :=
  ((List.finRange 8).findSome? (transformerFailure c)).or
    (((List.finRange 8).findSome? (curveFailure c)).or
      (((List.finRange 8).findSome? (monitorsFailure c)).or ((List.finRange 6).findSome? (contactFailure c))))

/-- The Store takes a COMMIT request (R143). -/
def State.takeCommit (s : State) : State × Answer :=
  if s.store.isSealed then (s, refuseState)
  else
    match commitFailure s.store.pending with
    | some f => (s, .now .refusedValue (detail f.kind.code f.index f.field))
    | none => (s.setStore { s.store with isSealed := true }, doneEmpty)

/-- COMMIT (R143). -/
def execCommit (tag : Byte) (payload : List Byte) (hrdy : Bool) (s : State) : Host.Outcome State Fault Refusal :=
  .next (s.serve .commit State.takeCommit tag payload hrdy)

/-! ## DISCARD (R148) -/

/-- The pending copy becomes a copy of the applied settings, and the pending state OPEN (R148, R149). -/
def Store.revert (x : Store) : Store := { x with pending := x.applied, isSealed := false }

/-- The Store takes a DISCARD request. -/
def State.takeDiscard (s : State) : State × Answer := (s.setStore s.store.revert, doneEmpty)

/-- DISCARD (R148). -/
def execDiscard (tag : Byte) (payload : List Byte) (hrdy : Bool) (s : State) : Host.Outcome State Fault Refusal :=
  .next (s.serve .discard State.takeDiscard tag payload hrdy)

/-! ## The apply (R145, R146) -/

/-- Each channel's record is treated by how its CHANNEL item changed (R32). -/
def State.applyChannels (old new : Settings) (s : State) : State :=
  s.setCond { s.cond with
    channels := .ofFn fun i => (s.cond.channels.get i).apply (old.channels.get i) (new.channels.get i) }

/-- Each slot is treated by its class (R48 to R53); then the horn request and the pattern are formed anew (R54). -/
def State.applySlots (old new : Settings) (s : State) : State :=
  (s.setSlots (.ofFn fun t => (s.slots.get t).apply (slotClass old new t))).reformPattern s

/-- One defined slot is re-evaluated against the new A (R95). -/
def State.reevaluate (a : Level) (s : State) (t : Fin 8) : State :=
  if s.isDefined t then
    (s.putSignal t ((s.slots.get t).signal.newA a (s.slots.get t).grade.level)).reformPattern s
  else s

/-- A changed A is re-evaluated for every defined slot (R95); an unchanged one is not. -/
def State.applyAnnunciateAt (old new : Settings) (s : State) : State :=
  if old.general.annunciateAt = new.general.annunciateAt then s
  else (List.finRange 8).foldl (State.reevaluate new.general.annunciateAt) s

/-- A changed ANNUNCIATOR item sets the pattern positions to 0 (R112). -/
def State.applyAnnunciator (old new : Settings) (s : State) : State :=
  if old.annunciator = new.annunciator then s
  else s.setAnn { s.ann with hornPos := 0, fastPos := 0, slowPos := 0, hornReset := true, lampReset := true }

/-- The sealed set becomes the applied set, with what every block makes of it (R145, R146), in the order of R54,
R95 and R112; the horn line is then formed anew, once (R104, R112; notes/assumptions/13.md), and SETTINGS APPLIED
is queued. -/
def State.applySettings (s : State) : State :=
  let old := s.store.applied
  let new := s.store.pending
  let s1 := s.setStore { applied := new, pending := new, isSealed := false }
  let s2 := (s1.applyChannels old new).applySlots old new
  let s3 := (s2.applyAnnunciateAt old new).applyAnnunciator old new
  s3.reformTone.notify .settingsApplied

/-- The Store takes an epoch completion (R145). -/
def State.takeEpoch (s : State) : State := if s.store.isSealed then s.applySettings else s

end Sys2Proof.Machine
end

