-- ==== Sys2Proof/Machine/Outputs.lean ====
section
/-! DEFINITION. The output lines as views of the state: TXD (R150, R160), PRDY (R156), ATTN (R169), the horn line
(R104), the lamps (R108) and the contacts (R109 to R111). None holds state of its own (notes/assumptions/14.md). -/

namespace Sys2Proof.Machine

/-- Bit i of the ten of a character (R150): the start bit is low, then eight data bits, least significant first, and
the stop bit is high. -/
def characterBit (b : Byte) (i : Nat) : Bool := if i = 0 then false else if i ≤ 8 then b.getLsbD (i - 1) else true

/-- TXD is high at idle (R160); while SENDING the characters of the reply follow one another bit by bit (R150). -/
def State.txd (s : State) : Bool :=
  match s.link.tx with
  | .sending bytes =>
    let i := s.link.txTicks * bitRate s.time.rate / 1000000
    match bytes[i / 10]? with
    | some b => characterBit b (i % 10)
    | none => true
  | .idle | .waitHrdy _ => true

/-- PRDY is asserted exactly when the part is RUNNING and no request is in service (R156). -/
def State.prdy (s : State) : Bool := s.isRunning && s.link.service.isNone

/-- ATTN is asserted exactly when attention is enabled and the queue is non-empty (R169). -/
def State.attn (s : State) : Bool := s.applied.general.attention && !s.notices.queue.isEmpty

/-- The horn line is high in the high part of a tone period (R104, R105), and low in STARTING (R1). -/
def State.hornLine (s : State) : Bool :=
  match s.ann.tone with
  | some t => s.isRunning && t.high
  | none => false

/-- The step of a pattern at a position. -/
def Pattern.on (p : Pattern) (pos : Nat) : Bool := p.steps.getLsbD pos

/-- Lamp Ln follows the annunciation state of slot Tn (R108); off in STARTING (R1). -/
def State.lamp (s : State) (n : Fin 8) : Bool :=
  s.isRunning &&
    match (s.slots.get n).signal.state with
    | .quiet => false
    | .steady => true
    | .flashing => s.applied.annunciator.fast.on s.ann.fastPos
    | .ringback => s.applied.annunciator.slow.on s.ann.slowPos

/-- An enabled channel is in FAULT (R110, R170). -/
def State.channelFaulty (s : State) (c : Fin 16) : Bool :=
  (s.applied.channels.get c).enabled && (s.cond.channels.get c).state == .fault

/-- HEALTHY: the tracker is LOCKED, no enabled channel is in FAULT, and the last verdict is not FAIL (R110). -/
def State.healthy (s : State) : Bool :=
  s.tracker.state == .locked && (List.finRange 16).all (fun c => !s.channelFaulty c) && s.cond.verdict != .fail

/-- Some slot is FLASHING or RINGBACK (R110). -/
def State.unacknowledged (s : State) : Bool :=
  (List.finRange 8).any fun t => (s.slots.get t).signal.ackChanges

/-- The truth of a contact source (R110). -/
def State.sourceTrue (s : State) : ContactSource → Bool
  | .none => false
  | .level t n => decide (n ≤ (s.slots.get t).grade.level)
  | .anyLevel n => (List.finRange 8).any fun t => s.isDefined t && decide (n ≤ (s.slots.get t).grade.level)
  | .unacknowledged => s.unacknowledged
  | .horn => s.hornRequest
  | .healthy => s.healthy
  | .captureReady => s.capture.state == .frozen

/-- A contact driver (R109): enabled, and its source's truth differs from "the sense is DE-ENERGIZE-WHEN-TRUE";
de-energized in STARTING (R1). -/
def State.contact (s : State) (k : Fin 6) : Bool :=
  let x := s.applied.contacts.get k
  s.isRunning && x.enabled && (s.sourceTrue x.source != (x.sense == .deEnergizeWhenTrue))

end Sys2Proof.Machine
end

