-- ==== Sys2Proof/Machine/Layouts.lean ====
section
/-! DEFINITION. The reply bodies and notice records of section 11.4 (R175). -/

namespace Sys2Proof.Machine

/-- The kind code of a notice (section 11.4). -/
def NoticeBody.code : NoticeBody → Byte
  | .levelChanged .. => 0x01
  | .acknowledged .. => 0x02
  | .channelFault _ => 0x03
  | .channelRecovered _ => 0x04
  | .referenceLost => 0x05
  | .referenceRestored _ => 0x06
  | .freeRunning => 0x07
  | .selfCheckResult .. => 0x08
  | .settingsApplied => 0x09
  | .exposureSaturated _ => 0x0A
  | .captureFrozen _ => 0x0B
  | .captureMissed _ => 0x0C
  | .holdRevoked _ => 0x0D

/-- The subject of a notice: a slot, a channel, or none (R164, R173). -/
def NoticeBody.subject : NoticeBody → Byte
  | .levelChanged t .. => byte t.val
  | .exposureSaturated t => byte t.val
  | .channelFault c => byte c.val
  | .channelRecovered c => byte c.val
  | .acknowledged .. | .referenceLost | .referenceRestored _ | .freeRunning | .selfCheckResult .. | .settingsApplied
  | .captureFrozen _ | .captureMissed _ | .holdRevoked _ => 0xFF

/-- The detail of a notice, from offset 6 (section 11.4). -/
def NoticeBody.detailBytes : NoticeBody → List Byte
  | .levelChanged _ old new c r e => [byte old.val, byte new.val, byte (bits [c, r, e])]
  | .acknowledged src changed => [src.code, byte (bits changed.cells)]
  | .referenceRestored p => be16 p
  | .selfCheckResult pass refMean gndMean =>
    [if pass then Verdict.pass.code else Verdict.fail.code] ++ be16 refMean ++ be16 gndMean
  | .captureFrozen x | .captureMissed x | .holdRevoked x => [x.code, x.subject]
  | .channelFault _ | .channelRecovered _ | .referenceLost | .freeRunning | .settingsApplied
  | .exposureSaturated _ => []

/-- A notice record (section 11.4). -/
def Notice.bytes (n : Notice) : List Byte :=
  [n.body.code] ++ be32 n.epoch.toNat ++ [n.body.subject] ++ n.body.detailBytes

/-- READ TRACKER (R20, R175): P_s and the cycle number are those of the cycle in progress. -/
def trackerBody (s : State) : List Byte :=
  let ps := match s.scanner.cycle with
    | some c => c.ps
    | none => nominalPeriod s.time.fnom
  [s.tracker.state.code] ++ be16 (s.tracker.pGood.getD 0) ++ be16 ps ++ [byte s.tracker.goodRun, byte s.tracker.hold]
    ++ be32 s.scanner.cycleNumber.toNat ++ be32 s.cond.epochNumber.toNat

/-- The last valid pair, or its absent encoding (R173). -/
def validBytes : Option (Nat × Int) → List Byte
  | some (mq, i) => be16 mq ++ beInt i
  | none => be16 0xFFFF ++ be16 0

/-- READ CHANNEL (R38, R175). -/
def channelReplyBody (s : State) (i : Fin 16) : List Byte :=
  let r := s.cond.channels.get i
  [byte i.val, r.state.code, byte r.stuckRun, byte r.cleanRun] ++ be16 r.lastCq
    ++ [byte r.count, r.marksByte, byte s.cond.epochCycles]
    ++ be16 r.result.mq ++ beInt r.result.current ++ [byte r.result.k, r.result.flagsByte] ++ validBytes r.lastValid

/-- READ TRANSFORMER (R88, R171, R175). -/
def transformerReplyBody (s : State) (t : Fin 8) : List Byte :=
  let x := s.slots.get t
  [byte t.val, yesNo (s.isDefined t)] ++ beInt x.cur.ieff ++ [x.cur.flagsByte]
    ++ be16 x.thermal.target ++ be16 x.thermal.rise ++ be32 x.thermal.exposure
    ++ [byte x.grade.level.val, byte x.grade.prevC.val, byte x.grade.prevR.val, byte x.grade.prevE.val,
        byte x.grade.up, byte x.grade.down, x.signal.state.code, byte x.signal.flash.val, byte x.signal.acked.val]

/-- STATUS (R170, R175). -/
def statusBody (s : State) : List Byte :=
  [Config.familyCode, Config.revision, byte s.time.rate.toNat, fnomCode s.time.fnom, s.time.phase.code,
   s.tracker.state.code]
    ++ be32 s.scanner.cycleNumber.toNat ++ be32 s.cond.epochNumber.toNat
    ++ [byte (bits ((List.finRange 8).map s.isDefined))]
    ++ (List.finRange 8).map (fun t => byte (s.slots.get t).grade.level.val)
    ++ (List.finRange 8).map (fun t => (s.slots.get t).signal.state.code)
    ++ [yesNo s.hornRequest, yesNo s.ann.silenced, s.cond.selfCheck.code, s.cond.verdict.code]
    ++ be16 (bits ((List.finRange 16).map s.channelFaulty))
    ++ [s.capture.state.code, yesNo s.store.isSealed, byte s.notices.queue.length, yesNo s.notices.lost]

end Sys2Proof.Machine
end

