-- ==== Sys2Proof/Machine/Summaries.lean ====
section
/-! DEFINITION. The requests that read (STATUS, READ TRACKER, READ CHANNEL, READ TRANSFORMER) and FETCH NOTICE. -/

namespace Sys2Proof.Machine

/-- STATUS changes no state (R170). -/
def State.takeStatus (s : State) : State × Answer := (s, .now .done (statusBody s))

/-- READ TRACKER changes no state (R20). -/
def State.takeReadTracker (s : State) : State × Answer := (s, .now .done (trackerBody s))

/-- READ CHANNEL changes no state; an index above 15 is refused (R38). -/
def State.takeReadChannel (p : List Byte) (s : State) : State × Answer :=
  match channelOf (u8 p 0) with
  | none => (s, refuseField .readChannel 1)
  | some i => (s, .now .done (channelReplyBody s i))

/-- READ TRANSFORMER changes no state; a number above 7 is refused (R171). -/
def State.takeReadTransformer (p : List Byte) (s : State) : State × Answer :=
  match slotOf (u8 p 0) with
  | none => (s, refuseField .readTransformer 1)
  | some t => (s, .now .done (transformerReplyBody s t))

/-- The oldest n notices are removed; the lost mark is cleared if the queue is left empty (R166, R167). -/
def NoticeQueue.fetch (n : Nat) (q : NoticeQueue) : NoticeQueue :=
  { queue := q.queue.drop n, lost := q.lost && !(q.queue.drop n).isEmpty }

/-- FETCH NOTICE (R166): a count outside 1..4 is refused. -/
def State.takeFetchNotice (p : List Byte) (s : State) : State × Answer :=
  let n := u8 p 0
  if 1 ≤ n ∧ n ≤ 4 then
    let removed := s.notices.queue.take n
    (s.setNotices (s.notices.fetch n), .now .done (byte removed.length :: removed.flatMap Notice.bytes))
  else (s, refuseField .fetchNotice 1)

/-- STATUS (R170). -/
def execStatus (tag : Byte) (payload : List Byte) (hrdy : Bool) (s : State) : Host.Outcome State Fault Refusal :=
  .next (s.serve .status State.takeStatus tag payload hrdy)

/-- READ_TRACKER (R20). -/
def execReadTracker (tag : Byte) (payload : List Byte) (hrdy : Bool) (s : State) : Host.Outcome State Fault Refusal :=
  .next (s.serve .readTracker State.takeReadTracker tag payload hrdy)

/-- READ_CHANNEL (R38). -/
def execReadChannel (tag : Byte) (payload : List Byte) (hrdy : Bool) (s : State) : Host.Outcome State Fault Refusal :=
  .next (s.serve .readChannel (State.takeReadChannel payload) tag payload hrdy)

/-- READ_TRANSFORMER (R171). -/
def execReadTransformer (tag : Byte) (payload : List Byte) (hrdy : Bool) (s : State) :
    Host.Outcome State Fault Refusal :=
  .next (s.serve .readTransformer (State.takeReadTransformer payload) tag payload hrdy)

/-- FETCH_NOTICE (R166). -/
def execFetchNotice (tag : Byte) (payload : List Byte) (hrdy : Bool) (s : State) : Host.Outcome State Fault Refusal :=
  .next (s.serve .fetchNotice (State.takeFetchNotice payload) tag payload hrdy)

end Sys2Proof.Machine
end

