-- ==== Sys2Proof/Machine/LinkInterface.lean ====
section
/-! DEFINITION. The Link Interface (chapter 9): the receiver, frames dropped and refused, HRDY, the end of a reply,
and RESTART. -/

namespace Sys2Proof.Machine

/-! ## The receiver (R154, R155) -/

/-- What the receiver makes of one byte: its next state and, at the end of a frame whose check matches, the bytes
taken after SYNC. -/
structure Received where
  receiver : Receiver
  complete : Option (List Byte)
deriving DecidableEq, Repr

/-- The receiver goes on with no frame completed. -/
def Received.only (r : Receiver) : Received := { receiver := r, complete := none }

/-- The length after SYNC of a frame whose LENGTH byte is `len`: LENGTH, KIND, TAG, the payload, the check (R151). -/
def afterSync (len : Byte) : Nat := len.toNat + 5

/-- The check bytes of the bytes after SYNC match the check formed over the covered bytes (R153). -/
def checkMatches (bs : List Byte) : Bool := bs.drop (bs.length - 2) == crcBytes (bs.take (bs.length - 2))

/-- HUNTING takes a byte (R154): 0xC3 without a framing error starts a frame. -/
def huntingTakes (b : Byte) (stopHigh : Bool) : Received :=
  if stopHigh && b == 0xC3 then .only (.receiving []) else .only .hunting

/-- RECEIVING takes a byte after those in `taken` (R154, R155). -/
def receivingTakes (taken : List Byte) (b : Byte) (stopHigh : Bool) : Received :=
  if !stopHigh then .only .hunting
  else
    let bs := taken ++ [b]
    match taken with
    | [] => if b.toNat ≤ 120 then .only (.receiving bs) else .only .hunting
    | len :: _ =>
      if bs.length < afterSync len then .only (.receiving bs)
      else if checkMatches bs then { receiver := .hunting, complete := some bs }
      else .only .hunting

/-- The receiver takes a byte. -/
def Receiver.take (b : Byte) (stopHigh : Bool) : Receiver → Received
  | .hunting => huntingTakes b stopHigh
  | .receiving taken => receivingTakes taken b stopHigh

/-- A complete and valid frame is handed to the service logic: it enters service (R156) or is dropped (R157). Its
bytes after SYNC are LENGTH, KIND, TAG, the payload and the check. -/
def State.handFrame (bs : List Byte) (s : State) : State :=
  match s.link.service with
  | some _ => s.dropFrame
  | none => s.enterService (bs.getD 1 0) (bs.getD 2 0) ((bs.drop 3).take (bs.length - 5))

/-- BYTE_TAKEN (R154, R155): bytes are ignored in STARTING, as is one whose start fell there (R1). The inter-byte
timing restarts at each byte of a frame and is stopped in HUNTING. -/
def execByteTaken (b : Byte) (stopHigh startedEarly : Bool) (s : State) : Host.Outcome State Fault Refusal :=
  .next (if s.isRunning && !startedEarly then
    let r := s.link.receiver.take b stopHigh
    let s1 := s.setLink { s.link with receiver := r.receiver, byteTicks := 0 }
    match r.complete with
    | some bs => s1.handFrame bs
    | none => s1
  else s)

/-- Whether the inter-byte expiry occurs now: 20,000 ticks since the last byte of a frame in progress (R155). -/
def Link.byteExpiryDue (l : Link) : Bool :=
  match l.receiver with
  | .hunting => false
  | .receiving _ => l.byteTicks == 20000

/-- INTER_BYTE_EXPIRY (R155). -/
def execInterByteExpiry (s : State) : Host.Outcome State Fault Refusal :=
  .next (if s.isRunning && s.link.byteExpiryDue then
    s.setLink { s.link with receiver := .hunting, byteTicks := 0 } else s)

/-! ## Frames that are not handed on -/

/-- FRAME_DROPPED (R157): it occurs while a request is in service. -/
def execFrameDropped (s : State) : Host.Outcome State Fault Refusal :=
  .next (if s.isRunning && s.link.service.isSome then s.dropFrame else s)

/-- REQUEST_UNKNOWN_KIND (R158): answered REFUSED-KIND at once. A KIND that section 11.3 lists is not this event's. -/
def execRequestUnknownKind (kind tag : Byte) (payload : List Byte) (hrdy : Bool) (s : State) :
    Host.Outcome State Fault Refusal :=
  .next (if knownKind kind then s
  else
    match s.entry kind tag payload with
    | .ignored => s
    | .dropped => s.dropFrame
    | .taken => (s.enterService kind tag payload).answer .refusedKind [] hrdy)

/-! ## Sending -/

/-- HRDY_ASSERTED (R160): it starts a reply that waits for it, and has no effect otherwise. -/
def execHrdyAsserted (s : State) : Host.Outcome State Fault Refusal :=
  .next (match s.link.tx with
    | .waitHrdy r => s.startReply r
    | .idle | .sending _ => s)

/-- Whether the last byte of the reply has been sent: its characters' time has passed (R150, R156). -/
def State.replyOver (s : State) : Bool :=
  match s.link.tx with
  | .sending bytes => decide (sendTicks s.time.rate bytes.length ≤ s.link.txTicks)
  | .idle | .waitHrdy _ => false

/-- What RESTART does when it takes effect (R162): the Notice Queue (R168), the pending settings (R149), Capture
Memory (R132) and the receiver. -/
def State.restartEffect (s : State) : State :=
  (((s.setNotices .empty).setStore s.store.revert).setCapture s.capture.restart).setLink
    { s.link with receiver := .hunting, byteTicks := 0 }

/-- The request in service is an answered RESTART (R162). -/
def State.restartInService (s : State) : Bool :=
  match s.link.service with
  | some r => r.stage == .restarting
  | none => false

/-- The end of a reply (R156): the transmitter is IDLE and the request leaves service; a RESTART takes effect. -/
def State.endReply (s : State) : State :=
  let s1 := s.setLink { s.link with tx := .idle, txTicks := 0, service := none }
  if s.restartInService then s1.restartEffect else s1

/-- REPLY_SENT (R156). -/
def execReplySent (s : State) : Host.Outcome State Fault Refusal :=
  .next (if s.isRunning && s.replyOver then s.endReply else s)

/-- RESTART (R162): DONE at once; its effects wait for the end of its reply. -/
def execRestart (tag : Byte) (payload : List Byte) (hrdy : Bool) (s : State) : Host.Outcome State Fault Refusal :=
  .next (s.serve .restart (fun x => (x, .thenRestart)) tag payload hrdy)

end Sys2Proof.Machine
end

