-- ==== Sys2Proof/Machine/Completion.lean ====
section
/-! DEFINITION. The cycle completion (R18) and the epoch completion (R25): the scanner's and the Conditioner's own
steps, the chain of each slot (R43 to R47, R57, R71, R81), and the parts that each block takes on its own, in any
order the manual leaves open (notes/assumptions/7.md). -/

namespace Sys2Proof.Machine

/-! ## The chain of one slot -/

/-- The number of the cycle that completed last (R18): while the start of the next waits, the cycle number is still
its own. -/
def State.lastCompleted (s : State) : Count32 :=
  if .start ∈ s.flight.parts then s.scanner.cycleNumber else s.scanner.cycleNumber - 1

/-- The trigger of a level change of slot t at this epoch completion (R119): the last cycle and the number of the
ended epoch, which has already advanced (R25). -/
def State.levelTrigger (t : Fin 8) (s : State) : Trigger :=
  { cause := .level t, cycle := s.lastCompleted, epoch := s.cond.epochNumber - 1 }

/-- A level change (R81): LEVEL CHANGED is queued, the change is handed to the Annunciator (R85), and a LEVEL trigger
is raised (R86). -/
def State.levelChange (t : Fin 8) (old : Level) (g : Grade) (s : State) : State :=
  (s.notify (levelNotice t old g)).setFlight { s.flight with
    changes := s.flight.changes ++ [{ slot := t, old := old, new := g.level }]
    levels := s.flight.levels ++
      if levelTriggers s.applied.general.captureLevel old g.level then [s.levelTrigger t] else [] }

/-- The Transformer Table forms the effective current of slot t and its quality flags (R43 to R46); a slot that is not
defined is not computed. -/
def State.formCurrent (t : Fin 8) (s : State) : State :=
  if s.isDefined t then
    s.setSlots (s.slots.modify t fun x =>
      { x with cur := slotCurrent s.cond.channels (s.applied.transformers.get t).terms })
  else s

/-- The thermal step of slot t on its new effective current, with EXPOSURE SATURATED and the values handed on (R57 to
R64); a slot that is not defined takes none. -/
def State.stepThermal (t : Fin 8) (s : State) : State :=
  if s.isDefined t then
    let x := s.slots.get t
    let th := x.thermal.step (s.applied.transformers.get t) (s.applied.curves.get t) x.cur.ieff.natAbs
    let s1 := (s.setSlots (s.slots.set t { x with thermal := th })).setFlight { s.flight with
      handed := s.flight.handed ++ [{ slot := t, ieff := x.cur.ieff, rise := th.rise, exposure := th.exposure }] }
    if x.thermal.reports th then s1.notify (.exposureSaturated t) else s1
  else s

/-- The values that the Alarm Evaluator holds for slot t (R64). -/
def Flight.handedTo (f : Flight) (t : Fin 8) : Option Handed := f.handed.find? fun h => h.slot = t

/-- The grading of slot t on the values handed over (R71). -/
def State.gradeOn (t : Fin 8) (h : Handed) (s : State) : State :=
  let x := s.slots.get t
  let g := x.grade.evaluate (s.applied.monitors.get t) h.ieff.natAbs h.rise h.exposure
  let s1 := s.setSlots (s.slots.set t { x with grade := g })
  if g.level = x.grade.level then s1 else s1.levelChange t x.grade.level g

/-- The Alarm Evaluator takes the values of slot t, if any were handed over, and grades it; a slot that is not defined
is not evaluated (R70, R71). -/
def State.gradeSlot (t : Fin 8) (s : State) : State :=
  let s1 := s.setFlight { s.flight with handed := s.flight.handed.filter fun h => h.slot ≠ t }
  match s.flight.handedTo t with
  | some h => if s.isDefined t then s1.gradeOn t h else s1
  | none => s1

/-- The LEVEL triggers in ascending slot order (R87). -/
def ascending (trs : List Trigger) : List Trigger :=
  (List.finRange 8).flatMap fun t => trs.filter fun tr => tr.cause = .level t

/-! ## The parts of a completion -/

/-- What must have been taken before a part: a cycle start is taken after the tracker has taken the completion and
given it (R11), after the completed frame is taken (R115), and after the verdict of the check that the completed cycle
carried (R36); the thermal step of a slot follows its effective current (R47), its grading the thermal step (R64), and
the Annunciator's taking of a level change the grading (R81); LEVEL triggers follow the grading of every slot (R87); the
apply follows the chain, the handing of its triggers and its annunciation changes (R49, R145). The STEP triggers follow
nothing: the comparison reads the entries as they were delivered (R30), and the notices of the Conditioner and of Capture
Memory come in either order (R165). -/
def mustFollow : CompletionPart → List CompletionPart
  | .entries | .nextEntry | .steps | .nextStep | .frame | .count | .current _ => []
  | .start => [.entries, .frame, .count]
  | .thermal t => [.current t]
  | .grade t => [.thermal t]
  | .annunciate t => [.grade t]
  | .levels | .nextLevel => (List.finRange 8).map .grade
  | .settings => .levels :: (List.finRange 8).map .annunciate

/-- The part that waits, of which `p` is the whole or, for one entry or one trigger, a piece. -/
def waitsAs (p : CompletionPart) : CompletionPart :=
  if p = .nextEntry then .entries else if p = .nextStep then .steps else if p = .nextLevel then .levels else p

/-- Capture Memory takes the next of the STEP triggers that wait (R31). -/
def State.takeNextStep (hrdy : Bool) (s : State) : State :=
  match s.flight.steps with
  | [] => s
  | tr :: rest => (s.setFlight { s.flight with steps := rest }).takeTriggers hrdy [tr]

/-- Capture Memory takes the next of the LEVEL triggers that wait (R87). -/
def State.takeNextLevel (hrdy : Bool) (s : State) : State :=
  match ascending s.flight.levels with
  | [] => s
  | tr :: rest => (s.setFlight { s.flight with levels := rest }).takeTriggers hrdy [tr]

/-- The Cycle Tracker takes a cycle completion: it counts it (R8) and, from its state at that moment, gives the next
cycle start (R11). -/
def State.countCompletion (s : State) : State :=
  let s1 := s.moveTracker s.tracker.countCompletion
  s1.setFlight { s1.flight with given := some (s1.tracker.cycleStart s1.time.fnom) }

/-- The Sample Scanner increments the cycle number (R18) and takes the cycle start that the tracker gave (R11, R12). -/
def State.startNext (s : State) : State :=
  match s.flight.given with
  | none => s
  | some g => (s.setFlight { s.flight with given := none }).startCycle (s.scanner.cycleNumber + 1) g

/-- The block concerned takes its part. -/
def State.runPart (hrdy : Bool) (p : CompletionPart) (s : State) : State :=
  match p with
  | .entries => s.takeRecord
  | .nextEntry => s.takeNextEntry
  | .steps => (s.setFlight { s.flight with steps := [] }).takeTriggers hrdy s.flight.steps
  | .nextStep => s.takeNextStep hrdy
  | .frame => s.takeFrame hrdy
  | .count => s.countCompletion
  | .start => s.startNext
  | .current t => s.formCurrent t
  | .thermal t => s.stepThermal t
  | .grade t => s.gradeSlot t
  | .annunciate t => s.hearChange t
  | .levels => (s.setFlight { s.flight with levels := [] }).takeTriggers hrdy (ascending s.flight.levels)
  | .nextLevel => s.takeNextLevel hrdy
  | .settings => s.takeEpoch

/-- A part is taken if it has not been taken and may be taken now; one entry or one trigger
leaves the others waiting. -/
def State.takePart (hrdy : Bool) (s : State) (p : CompletionPart) : State :=
  if waitsAs p ∈ s.flight.parts ∧ ∀ q ∈ mustFollow p, q ∉ s.flight.parts then
    (s.setFlight { s.flight with parts := s.flight.parts.filter (· ≠ p) }).runPart hrdy p
  else s

/-- Parts are taken in an order. -/
def State.takeParts (hrdy : Bool) (order : List CompletionPart) (s : State) : State :=
  order.foldl (State.takePart hrdy) s

/-- The parts of a cycle completion. -/
def cycleParts : List CompletionPart := [.entries, .steps, .frame, .count, .start]

/-- The parts that an epoch completion adds. -/
def epochParts : List CompletionPart :=
  (List.finRange 8).flatMap (fun t => [.current t, .thermal t, .grade t, .annunciate t]) ++ [.levels, .settings]

/-! ## The cycle completion -/

/-- At the completion the scanner delivers the record to the Conditioner, and the step detector makes its comparisons
and hands its triggers on (R18, R30, R31); the scanner increments the cycle number as it takes the next cycle
start, so that the number and the P_s that READ TRACKER returns are of one cycle (R18, R20). -/
def State.deliver (s : State) : State :=
  match s.scanner.cycle with
  | none => s
  | some c => s.setFlight { s.flight with parts := cycleParts, entries := c.sums, steps := s.stepTriggers c }

/-- Whether the cycle in progress completes now (R18); the parts of the completion before it have been taken. -/
def State.completionDue (s : State) : Bool :=
  s.isRunning && s.flight.parts.isEmpty && !s.epochDue &&
    match s.scanner.cycle with
    | some c => c.completionDue
    | none => false

/-- Whether parts of a cycle completion wait, with no epoch completion under way. -/
def State.cycleInFlight (s : State) : Bool :=
  s.isRunning && !s.flight.parts.isEmpty && !s.flight.parts.contains .settings

/-- Parts of a cycle completion are taken in the operand's order. The whole completion takes the others too, unless
it completes an epoch: then they may be taken at the epoch completion, which falls at the same instant. -/
def State.runCycleParts (order : List CompletionPart) (whole hrdy : Bool) (s : State) : State :=
  let s1 := s.takeParts hrdy order
  if whole then
    let s2 := s1.takeParts hrdy [.entries]
    if s2.epochDue then s2 else s2.takeParts hrdy cycleParts
  else s1

/-- CYCLE_COMPLETION (R18, R22 to R25, R116 to R118, R8, R11). -/
def execCycleCompletion (order : List CompletionPart) (whole hrdy : Bool) (s : State) :
    Host.Outcome State Fault Refusal :=
  .next (if s.completionDue then s.deliver.runCycleParts order whole hrdy
    else if s.cycleInFlight then s.runCycleParts order whole hrdy
    else s)

/-! ## The epoch completion -/

/-- The Conditioner raises the epoch completion (R25): its own steps are done, and the chains of the slots, the
LEVEL triggers and the apply are to follow. -/
def State.raiseEpoch (s : State) : State :=
  let s1 := s.closeEpoch
  s1.setFlight { s1.flight with parts := s1.flight.parts ++ epochParts }

/-- Whether parts of an epoch completion wait. -/
def State.epochInFlight (s : State) : Bool := s.isRunning && s.flight.parts.contains .settings

/-- Parts of an epoch completion, and of the cycle completion of the same instant, are taken in the operand's order;
the whole completion takes the others too. -/
def State.runEpochParts (order : List CompletionPart) (whole hrdy : Bool) (s : State) : State :=
  let s1 := s.takeParts hrdy order
  if whole then s1.takeParts hrdy (cycleParts ++ epochParts) else s1

/-- EPOCH_COMPLETION (R25): one that is under way goes on; another occurs when the epoch cycle counter stands at
EPOCH_CYCLES. -/
def execEpochCompletion (order : List CompletionPart) (whole hrdy : Bool) (s : State) :
    Host.Outcome State Fault Refusal :=
  .next (if s.epochInFlight then s.runEpochParts order whole hrdy
    else if s.isRunning && s.epochDue then s.raiseEpoch.runEpochParts order whole hrdy
    else s)

end Sys2Proof.Machine
end

