-- ==== Sys2Proof/Machine/TimebaseUnit.lean ====
section
/-! DEFINITION. Power-on reset and start-up (R1, R2), and the passing of one tick of the 1 MHz timebase, which is
what `step` does on an empty queue (notes/assumptions/2.md). -/

namespace Sys2Proof.Machine

/-- POWER_ON_RESET (R1, R19, R21): the end of power-on reset, with the straps as sampled. -/
def execPowerOnReset (rate : BitVec 2) (fnom : Fnom) (s : State) : Host.Outcome State Fault Refusal :=
  .next { State.powerOn rate fnom with pending := s.pending }

/-- STARTING_END (R2): the 8,000th tick of STARTING has passed; the first cycle starts, with the nominal period and
the degraded mark, as the tracker is SEARCHING. -/
def execStartingEnd (s : State) : Host.Outcome State Fault Refusal :=
  .next (if s.time.phase = .starting ∧ s.time.startTicks = 8000 then
    (s.setTime { s.time with phase := .running }).startCycle s.scanner.cycleNumber (s.tracker.cycleStart s.time.fnom)
    else s)

/-- A timed event of the cycle in progress occurs at this tick (R13, R14, R18). -/
def State.cycleDue (s : State) : Bool :=
  match s.scanner.cycle with
  | some c => c.slotDue || c.conversionDue || c.completionDue
  | none => false

/-- The request in service has entered it and is not yet dispatched (R158: at once). -/
def State.dispatchDue (s : State) : Bool :=
  match s.link.service with
  | some r => r.stage == .entered
  | none => false

/-- Some event must be taken at this tick before another tick can pass. -/
def State.eventDue (s : State) : Bool :=
  !s.flight.parts.isEmpty || s.epochDue || s.dispatchDue || s.cycleDue || s.tracker.ticks == 25000
    || s.ann.beatTicks == 125000 || s.link.byteExpiryDue || s.replyOver

/-- Whether a frame is being received, so that the inter-byte timing runs (R154, R155). -/
def Link.receivingFrame (l : Link) : Bool :=
  match l.receiver with
  | .hunting => false
  | .receiving _ => true

/-- Whether a reply is being sent. -/
def Link.isSending (l : Link) : Bool :=
  match l.tx with
  | .sending _ => true
  | .idle | .waitHrdy _ => false

/-- One tick reaches every counter that runs (R2, R3, R13, R101, R155, R150). -/
def State.countTick (s : State) : State :=
  { s with
    tracker := { s.tracker with ticks := s.tracker.ticks + 1 }
    scanner := { s.scanner with cycle := s.scanner.cycle.map fun c => { c with ticks := c.ticks + 1 } }
    ann := { s.ann with beatTicks := s.ann.beatTicks + 1, hornReset := false, lampReset := false }
    link := { s.link with
      byteTicks := if s.link.receivingFrame then s.link.byteTicks + 1 else s.link.byteTicks
      txTicks := if s.link.isSending then s.link.txTicks + 1 else s.link.txTicks } }

/-- One tick of the timebase. In STARTING it counts toward the 8,000; in RUNNING it reaches the counters. It does
not pass an instant at which an event has to be taken: there the state stands, waiting for that event. -/
def State.tick (s : State) : State :=
  match s.time.phase with
  | .starting =>
    if s.time.startTicks < 8000 then s.setTime { s.time with startTicks := s.time.startTicks + 1 } else s
  | .running => if s.eventDue then s else s.countTick

end Sys2Proof.Machine
end

