-- ==== Sys2Proof/Machine/Dispatch.lean ====
section
/-! DEFINITION. One arm per command, each one direct call of its meaning. -/

namespace Sys2Proof.Machine

def exec (i : Instr) (s : State) : Host.Outcome State Fault Refusal :=
  match i with
  | .powerOnReset rate fnom => Sys2Proof.Machine.execPowerOnReset rate fnom s
  | .startingEnd => Sys2Proof.Machine.execStartingEnd s
  | .zrefRisingCrossing => Sys2Proof.Machine.execZrefRisingCrossing s
  | .missingCrossingExpiry => Sys2Proof.Machine.execMissingCrossingExpiry s
  | .sampleSlot => Sys2Proof.Machine.execSampleSlot s
  | .conversionComplete microvolts => Sys2Proof.Machine.execConversionComplete microvolts s
  | .cycleCompletion order whole hrdy => Sys2Proof.Machine.execCycleCompletion order whole hrdy s
  | .epochCompletion order whole hrdy => Sys2Proof.Machine.execEpochCompletion order whole hrdy s
  | .beatExpiry ackb => Sys2Proof.Machine.execBeatExpiry ackb s
  | .byteTaken b stopHigh startedEarly => Sys2Proof.Machine.execByteTaken b stopHigh startedEarly s
  | .interByteExpiry => Sys2Proof.Machine.execInterByteExpiry s
  | .frameDropped => Sys2Proof.Machine.execFrameDropped s
  | .requestUnknownKind kind tag payload hrdy => Sys2Proof.Machine.execRequestUnknownKind kind tag payload hrdy s
  | .status tag payload hrdy => Sys2Proof.Machine.execStatus tag payload hrdy s
  | .readTracker tag payload hrdy => Sys2Proof.Machine.execReadTracker tag payload hrdy s
  | .readChannel tag payload hrdy => Sys2Proof.Machine.execReadChannel tag payload hrdy s
  | .readTransformer tag payload hrdy => Sys2Proof.Machine.execReadTransformer tag payload hrdy s
  | .fetchNotice tag payload hrdy => Sys2Proof.Machine.execFetchNotice tag payload hrdy s
  | .setGeneral tag payload hrdy => Sys2Proof.Machine.execSetGeneral tag payload hrdy s
  | .setChannel tag payload hrdy => Sys2Proof.Machine.execSetChannel tag payload hrdy s
  | .setTransformer tag payload hrdy => Sys2Proof.Machine.execSetTransformer tag payload hrdy s
  | .setCurve tag payload hrdy => Sys2Proof.Machine.execSetCurve tag payload hrdy s
  | .setMonitors tag payload hrdy => Sys2Proof.Machine.execSetMonitors tag payload hrdy s
  | .setContact tag payload hrdy => Sys2Proof.Machine.execSetContact tag payload hrdy s
  | .setAnnunciator tag payload hrdy => Sys2Proof.Machine.execSetAnnunciator tag payload hrdy s
  | .readSettings tag payload hrdy => Sys2Proof.Machine.execReadSettings tag payload hrdy s
  | .commit tag payload hrdy => Sys2Proof.Machine.execCommit tag payload hrdy s
  | .discard tag payload hrdy => Sys2Proof.Machine.execDiscard tag payload hrdy s
  | .acknowledge tag payload hrdy => Sys2Proof.Machine.execAcknowledge tag payload hrdy s
  | .silence tag payload hrdy => Sys2Proof.Machine.execSilence tag payload hrdy s
  | .clearExposure tag payload hrdy => Sys2Proof.Machine.execClearExposure tag payload hrdy s
  | .presetThermal tag payload hrdy => Sys2Proof.Machine.execPresetThermal tag payload hrdy s
  | .selfCheck tag payload hrdy => Sys2Proof.Machine.execSelfCheck tag payload hrdy s
  | .captureTrigger tag payload hrdy => Sys2Proof.Machine.execCaptureTrigger tag payload hrdy s
  | .captureHold tag payload hrdy => Sys2Proof.Machine.execCaptureHold tag payload hrdy s
  | .captureRelease tag payload hrdy => Sys2Proof.Machine.execCaptureRelease tag payload hrdy s
  | .captureRead tag payload hrdy => Sys2Proof.Machine.execCaptureRead tag payload hrdy s
  | .captureInfo tag payload hrdy => Sys2Proof.Machine.execCaptureInfo tag payload hrdy s
  | .restart tag payload hrdy => Sys2Proof.Machine.execRestart tag payload hrdy s
  | .hrdyAsserted => Sys2Proof.Machine.execHrdyAsserted s
  | .replySent => Sys2Proof.Machine.execReplySent s
  | .tonePeriod => Sys2Proof.Machine.execTonePeriod s

end Sys2Proof.Machine
end

