-- ==== Sys2Proof/Safety.lean ====
section
/-! DEFINITION. What a sound state is, block by block, as the manual's own sentences about the whole part say it, and
the words that claims use for a request and its reply. -/

namespace Sys2Proof.Machine

/-! ## Requests and replies -/

/-- The part can take a request at once: RUNNING with no request in service, so that PRDY is asserted (R156). -/
abbrev State.canServe (s : State) : Prop := s.time.phase = .running ∧ s.link.service = none

/-- The command by which a request of a known kind arrives. -/
def RequestKind.command (k : RequestKind) (tag : Byte) (payload : List Byte) (hrdy : Bool) : Instr :=
  match k with
  | .status => .status tag payload hrdy
  | .readTracker => .readTracker tag payload hrdy
  | .readChannel => .readChannel tag payload hrdy
  | .readTransformer => .readTransformer tag payload hrdy
  | .fetchNotice => .fetchNotice tag payload hrdy
  | .setGeneral => .setGeneral tag payload hrdy
  | .setChannel => .setChannel tag payload hrdy
  | .setTransformer => .setTransformer tag payload hrdy
  | .setCurve => .setCurve tag payload hrdy
  | .setMonitors => .setMonitors tag payload hrdy
  | .setContact => .setContact tag payload hrdy
  | .setAnnunciator => .setAnnunciator tag payload hrdy
  | .readSettings => .readSettings tag payload hrdy
  | .commit => .commit tag payload hrdy
  | .discard => .discard tag payload hrdy
  | .acknowledge => .acknowledge tag payload hrdy
  | .silence => .silence tag payload hrdy
  | .clearExposure => .clearExposure tag payload hrdy
  | .presetThermal => .presetThermal tag payload hrdy
  | .selfCheck => .selfCheck tag payload hrdy
  | .captureTrigger => .captureTrigger tag payload hrdy
  | .captureHold => .captureHold tag payload hrdy
  | .captureRelease => .captureRelease tag payload hrdy
  | .captureRead => .captureRead tag payload hrdy
  | .captureInfo => .captureInfo tag payload hrdy
  | .restart => .restart tag payload hrdy

/-- The bytes of the reply frame that starts in state `s` (R152, R153, R161, section 11.1). -/
def replyBytes (s : State) (kind tag : Byte) (status : ReplyStatus) (body : List Byte) : List Byte :=
  let covered := [BitVec.ofNat 8 body.length, kind ||| 0x80, tag, status.code, replyFlags s] ++ body
  [0xC3] ++ covered ++ [BitVec.ofNat 8 ((crc covered).toNat / 256), BitVec.ofNat 8 (crc covered).toNat]

/-- `s` with a request taken into service and answered (R156, R159, R160): with HRDY asserted the reply is being sent
and the dropped mark has been reported; otherwise the reply waits. Every other block is as in `s`. -/
def State.replied (s : State) (kind tag : Byte) (payload : List Byte) (stage : Stage) (status : ReplyStatus)
    (body : List Byte) (hrdy : Bool) : State :=
  { s with link := { s.link with
      service := some { kind := kind, tag := tag, payload := payload, stage := stage }
      tx := if hrdy then .sending (replyBytes s kind tag status body)
            else .waitHrdy { kind := kind ||| 0x80, tag := tag, status := status, body := body }
      txTicks := if hrdy then 0 else s.link.txTicks
      dropped := if hrdy then false else s.link.dropped } }

/-- `s` with a request of kind `k` answered at once. -/
def State.answered (s : State) (k : RequestKind) (tag : Byte) (payload : List Byte) (status : ReplyStatus)
    (body : List Byte) (hrdy : Bool) : State :=
  s.replied k.code tag payload .answered status body hrdy

/-- The request frame that a host sends (R151, R153): SYNC, LENGTH, KIND, TAG, payload, check. -/
def requestFrame (kind tag : Byte) (payload : List Byte) : List Byte :=
  let covered := [BitVec.ofNat 8 payload.length, kind, tag] ++ payload
  [0xC3] ++ covered ++ [BitVec.ofNat 8 ((crc covered).toNat / 256), BitVec.ofNat 8 (crc covered).toNat]

/-! ## Fields of a reply body or a notice record (R173) -/

/-- The number that `n` bytes from offset `o` write, most significant byte first. -/
def fieldAt (b : List Byte) (o n : Nat) : Nat := ((b.drop o).take n).foldl (fun x y => x * 256 + y.toNat) 0

/-- The body has this length, and each row of its table, an offset, a size and a value that the size can write, stands
in it. -/
abbrev laidOut (b : List Byte) (length : Nat) (rows : List (Nat × Nat × Nat)) : Prop :=
  b.length = length ∧ ∀ o n x, (o, n, x) ∈ rows → x < 256 ^ n → fieldAt b o n = x

/-- A signed number as two bytes write it. -/
abbrev twosComplement (x : Int) : Nat := (x % 65536).toNat

/-- A yes/no field. -/
abbrev yesBit (p : Bool) : Nat := if p then 1 else 0

/-! ## Roundings, as the scope file's section 6.2 means them -/

/-- `r` is x / y rounded half away from zero. -/
abbrev roundedAway (x : Int) (y : Nat) (r : Int) : Prop :=
  2 * (r * y - x).natAbs ≤ y ∧ (2 * (r * y - x).natAbs = y → x.natAbs ≤ (r * y).natAbs)

/-- `r` is x / y rounded half up. -/
abbrev roundedUp (x y r : Nat) : Prop := 2 * r * y ≤ 2 * x + y ∧ 2 * x + y < 2 * (r + 1) * y

/-- `r` is the least integer not below x / y. -/
abbrev isCeiling (x y r : Nat) : Prop := x ≤ r * y ∧ ∀ q, x ≤ q * y → r ≤ q

/-! ## Events that can occur -/

/-- A cycle `c` completes now (R13, R18): its last slot and every conversion are over, and nothing of an earlier
completion is outstanding. -/
abbrev State.completes (s : State) (c : Cycle) : Prop :=
  s.time.phase = .running ∧ s.scanner.cycle = some c ∧ c.ticks = c.ps ∧ c.slot = 32 ∧ c.conversions = [] ∧
    s.flight = .none ∧ s.cond.epochCycles < s.store.applied.general.epochCycles

/-- An epoch completes now (R25), with no more of the cycle completion outstanding than may follow it. -/
abbrev State.epochCompletes (s : State) : Prop :=
  s.time.phase = .running ∧ s.cond.epochCycles = s.store.applied.general.epochCycles ∧ s.flight.levels = [] ∧
    s.flight.handed = [] ∧ s.flight.changes = [] ∧
    ∀ p ∈ s.flight.parts, p = .steps ∨ p = .frame ∨ p = .count ∨ p = .start

/-- An epoch completion is under way and part `p` of it can be taken next. -/
abbrev State.awaits (s : State) (p : CompletionPart) : Prop :=
  s.time.phase = .running ∧ .settings ∈ s.flight.parts ∧ p ∈ s.flight.parts ∧ ∀ q ∈ mustFollow p, q ∉ s.flight.parts

/-- A notice of the present epoch has been queued between `s` and `t`, or was lost because 32 were held (R165). -/
abbrev State.told (s t : State) (b : NoticeBody) : Prop :=
  ({ epoch := s.cond.epochNumber, body := b } : Notice) ∈ t.notices.queue.drop s.notices.queue.length ∨
    (32 ≤ t.notices.queue.length ∧ t.notices.lost = true)

/-- R8: what a cycle completion does to the tracker, with the notice of R10. -/
abbrev State.countedBy (s t : State) : Prop :=
  (s.tracker.state ≠ .holdover → t.tracker = s.tracker) ∧
    (s.tracker.state = .holdover → s.tracker.hold < 49 →
      t.tracker = { s.tracker with hold := s.tracker.hold + 1 }) ∧
    (s.tracker.state = .holdover → s.tracker.hold = 49 →
      t.tracker = { s.tracker with hold := 50, state := .free } ∧ s.told t .freeRunning)

/-- R11: the P_s that the tracker of `s` gives: nominal in SEARCHING and FREE, P_good in LOCKED and HOLDOVER. -/
abbrev State.givesPeriod (s : State) (ps : Nat) : Prop :=
  (s.tracker.state = .searching ∨ s.tracker.state = .free → ps = if s.time.fnom = .hz50 then 20000 else 16667) ∧
    (s.tracker.state = .locked ∨ s.tracker.state = .holdover → ∀ p, s.tracker.pGood = some p → ps = p)

/-- R30: the entry `x` of a record steps: its channel is OK or FAULT, it is not stuck, the threshold H is not 0, a last
valid Mq stands, and the cycle mean stands at least 16 × H from it. -/
def State.stepsAt (s : State) (x : ChannelSums) : Bool :=
  let h := (s.store.applied.channels.get x.chan).stepThreshold
  match (s.cond.channels.get x.chan).lastValid with
  | none => false
  | some (mq, _) =>
    decide ((s.cond.channels.get x.chan).state ≠ .disabled ∧ x.allLow = false ∧ x.allHigh = false ∧ h ≠ 0 ∧
      16 * h ≤ ((((x.sum + 1) / 2 : Nat) : Int) - mq).natAbs)

/-- R30, R31: the STEP triggers of the record of `c`. -/
def State.stepsOf (s : State) (c : Cycle) : List Trigger :=
  (c.sums.filter s.stepsAt).map fun x => { cause := .step x.chan, cycle := c.number, epoch := s.cond.epochNumber }

/-- R12, R115: between `s` and `t` the next cycle has started, with the channels enabled in the applied settings, and
with a frame of its own, which is kept. -/
abbrev State.opensCycle (s t : State) (ps : Nat) (degraded check : Bool) : Prop :=
  let chans := (List.finRange 16).filter fun i => (s.store.applied.channels.get i).enabled
  let number := s.scanner.cycleNumber + 1
  t.scanner = {
    cycleNumber := number
    cycle := some {
      number := number, ps := ps, degraded := degraded, selfCheck := check, refSum := 0, gndSum := 0
      sums := chans.map fun i => { chan := i, sum := 0, clip := false, allLow := true, allHigh := true }
      ticks := 0, slot := 0, conversions := [], converted := 0 } } ∧
  t.capture.current = some {
    kept := true
    frame := { number := number, ps := ps, degraded := degraded
               channels := chans.map fun i => { chan := i, codes := [], clip := false } } }

/-- R116, R117, R118: between `s` and `t` Capture Memory has taken the completed frame `f`, and no trigger. -/
abbrev State.takesFrame (s t : State) (f : OpenFrame) : Prop :=
  t.capture.record = s.capture.record ∧ t.capture.depth = s.capture.depth ∧ t.capture.preKept = s.capture.preKept ∧
    t.capture.missed = s.capture.missed ∧ t.link = s.link ∧
    (f.kept = false ∨ s.capture.state = .held ∨ s.capture.state = .frozen →
      t.capture.ring = s.capture.ring ∧ t.capture.state = s.capture.state ∧ t.capture.post = s.capture.post) ∧
    (f.kept = true → s.capture.state = .armed → s.capture.ring.length < 48 →
      t.capture.ring = s.capture.ring ++ [f.frame] ∧ t.capture.state = .armed) ∧
    (f.kept = true → s.capture.state = .armed → s.capture.ring.length = 48 →
      t.capture.ring = s.capture.ring.tail ++ [f.frame] ∧ t.capture.state = .armed) ∧
    (f.kept = true → s.capture.state = .triggered →
      t.capture.ring = s.capture.ring ++ [f.frame] ∧ t.capture.post = s.capture.post - 1) ∧
    (f.kept = true → s.capture.state = .triggered → 1 < s.capture.post → t.capture.state = .triggered) ∧
    (f.kept = true → s.capture.state = .triggered → s.capture.post = 1 → t.capture.state = .frozen ∧
      ∀ r, s.capture.record = some r → s.told t (.captureFrozen r.cause))

/-- `s` in the epoch that begins (R25). -/
abbrev State.nextEpoch (s : State) : State := { s with cond := { s.cond with epochNumber := s.cond.epochNumber + 1 } }

/-- R103: between `s` and `t` the horn pattern position is set to 0 if the request has become true or the pattern in
use that of another level, and else stands. -/
abbrev State.positionFollows (s t : State) : Prop :=
  t.ann.hornPos = if t.hornKey ≠ none ∧ t.hornKey ≠ s.hornKey then 0 else s.ann.hornPos

/-- No channel is watched for steps (R30), so that a cycle completion raises no trigger. -/
abbrev State.unwatched (s : State) : Prop := ∀ i, (s.store.applied.channels.get i).stepThreshold = 0

/-- The three monitors' demands that a record holds, the highest of them (R76). -/
abbrev Grade.demanded (g : Grade) : Level := max g.prevC (max g.prevR g.prevE)

/-! ## Ranges of the settings items (section 8.2) -/

abbrev General.inRange (g : General) : Prop :=
  10 ≤ g.epochCycles ∧ g.epochCycles ≤ 120 ∧ g.checkInterval ≤ 3600 ∧ 1 ≤ g.annunciateAt ∧ g.preDepth ≤ 47

abbrev ChannelItem.inRange (x : ChannelItem) : Prop :=
  -2048 ≤ x.trim ∧ x.trim ≤ 2047 ∧ -32768 ≤ x.gain ∧ x.gain ≤ 32767 ∧ x.stepThreshold ≤ 2047

abbrev Term.inRange (w : Term) : Prop := -4096 ≤ w.weight ∧ w.weight ≤ 4095 ∧ w.weight ≠ 0

abbrev TransformerItem.inRange (x : TransformerItem) : Prop :=
  x.terms.length ≤ 3 ∧ (∀ w ∈ x.terms, w.inRange) ∧ 1 ≤ x.tauUp ∧ x.tauUp ≤ 65535 ∧ 1 ≤ x.tauDown ∧
    x.tauDown ≤ 65535 ∧ x.floor ≤ 32767

abbrev Breakpoint.inRange (b : Breakpoint) : Prop := 1 ≤ b.current ∧ b.current ≤ 32767 ∧ b.rise ≤ 60000

abbrev curveInRange (c : List Breakpoint) : Prop := c.length ≤ 8 ∧ ∀ b ∈ c, b.inRange

abbrev Thresholds.atMost (m : Nat) (x : Thresholds) : Prop := x.l1 ≤ m ∧ x.l2 ≤ m ∧ x.l3 ≤ m

abbrev MonitorsItem.inRange (m : MonitorsItem) : Prop :=
  m.c.atMost 32767 ∧ m.r.atMost 60000 ∧ m.e.atMost 4294967295 ∧ m.hC ≤ 32767 ∧ m.hR ≤ 60000 ∧
    1 ≤ m.pUp ∧ m.pUp ≤ 16 ∧ 1 ≤ m.pDown ∧ m.pDown ≤ 16

/-- A source level that is used is 1..3 (R139). -/
def ContactSource.inRange : ContactSource → Bool
  | .level _ n => decide (1 ≤ n)
  | .anyLevel n => decide (1 ≤ n)
  | .none | .unacknowledged | .horn | .healthy | .captureReady => true

abbrev Pattern.inRange (p : Pattern) : Prop := 1 ≤ p.width ∧ p.width ≤ 16

abbrev AnnunciatorItem.inRange (x : AnnunciatorItem) : Prop :=
  x.hornTone ≤ 7 ∧ 1 ≤ x.loudness ∧ x.loudness ≤ 8 ∧ x.horn1.inRange ∧ x.horn2.inRange ∧ x.horn3.inRange ∧
    x.fast.inRange ∧ x.slow.inRange ∧ x.chirpTone ≤ 7

/-- Every field of a configuration is in its range (R134 to R140). -/
abbrev Settings.inRange (c : Settings) : Prop :=
  c.general.inRange ∧ (∀ i, (c.channels.get i).inRange) ∧ (∀ t, (c.transformers.get t).inRange) ∧
    (∀ t, curveInRange (c.curves.get t)) ∧ (∀ t, (c.monitors.get t).inRange) ∧
    (∀ k, (c.contacts.get k).source.inRange = true) ∧ c.annunciator.inRange

/-! ## The cross-item checks (R144) -/

/-- R41, R144: at least one term, no channel twice, every term channel enabled. -/
abbrev termsOk (c : Settings) (terms : List Term) : Prop :=
  terms ≠ [] ∧ (terms.map (·.chan)).Nodup ∧ ∀ w ∈ terms, (c.channels.get w.chan).enabled = true

/-- R58, R144: at least one breakpoint, currents strictly ascending, rises not descending. -/
abbrev curveOk (points : List Breakpoint) : Prop :=
  points ≠ [] ∧ points.Pairwise fun a b => a.current < b.current ∧ a.rise ≤ b.rise

/-- R72, R144: each used threshold is above every used threshold of a lower level. -/
abbrev Thresholds.ascendingUsed (x : Thresholds) : Prop :=
  (x.l1 ≠ 0 → x.l2 ≠ 0 → x.l1 < x.l2) ∧ (x.l1 ≠ 0 → x.l3 ≠ 0 → x.l1 < x.l3) ∧ (x.l2 ≠ 0 → x.l3 ≠ 0 → x.l2 < x.l3)

/-- R110, R144: a LEVEL source names a defined slot. -/
def sourceOk (c : Settings) : ContactSource → Prop
  | .level t _ => (c.transformers.get t).defined = true
  | .none | .anyLevel _ | .unacknowledged | .horn | .healthy | .captureReady => True

/-- R144: field number `field` of item `index` of kind code `kind` passes the check that COMMIT makes of it; a field
that it does not check passes. -/
def Settings.passes (c : Settings) (kind index field : Nat) : Prop :=
  (∀ t : Fin 8, t.val = index → (c.transformers.get t).defined = true →
    let terms := (c.transformers.get t).terms
    let curve := c.curves.get t
    let ordered := fun (f : Nat) (x : Thresholds) =>
      (field = f + 1 → x.l2 ≠ 0 → x.l1 ≠ 0 → x.l1 < x.l2) ∧
      (field = f + 2 → x.l3 ≠ 0 → (x.l1 ≠ 0 → x.l1 < x.l3) ∧ (x.l2 ≠ 0 → x.l2 < x.l3))
    (kind = 0x12 → (field = 2 → terms ≠ []) ∧ ∀ before w after, terms = before ++ w :: after →
      field = 2 * before.length + 3 →
      w.chan ∉ before.map (·.chan) ∧ (c.channels.get w.chan).enabled = true) ∧
    (kind = 0x13 → (field = 1 → curve ≠ []) ∧ ∀ before p q after, curve = before ++ p :: q :: after →
      (field = 2 * before.length + 4 → p.current < q.current) ∧ (field = 2 * before.length + 5 → p.rise ≤ q.rise)) ∧
    (kind = 0x14 → ordered 1 (c.monitors.get t).c ∧ ordered 4 (c.monitors.get t).r ∧ ordered 7 (c.monitors.get t).e)) ∧
  ∀ k : Fin 6, k.val = index → kind = 0x15 → field = 3 →
    ∀ t n, (c.contacts.get k).source = .level t n → (c.transformers.get t).defined = true

/-- R141: the fields of a SET, each with its number and what it must meet, are checked in order: the first that fails is
refused, and with none failing it is done. -/
def checkedInOrder (refused : Nat → Prop) (isDone : Prop) : List (Nat × Prop) → Prop
  | [] => isDone
  | (field, ok) :: rest => (¬ ok → refused field) ∧ (ok → checkedInOrder refused isDone rest)

/-- Every cross-item check that COMMIT makes (R144). -/
abbrev Settings.crossChecked (c : Settings) : Prop :=
  (∀ t, (c.transformers.get t).defined = true →
      termsOk c (c.transformers.get t).terms ∧ curveOk (c.curves.get t) ∧
      (c.monitors.get t).c.ascendingUsed ∧ (c.monitors.get t).r.ascendingUsed ∧ (c.monitors.get t).e.ascendingUsed) ∧
    ∀ k, sourceOk c (c.contacts.get k).source

/-! ## Sound states -/

/-- R165, R167, R169: at most 32 notices, and the queue is never empty while the lost mark is set. -/
abbrev NoticeQueue.sound (q : NoticeQueue) : Prop := q.queue.length ≤ 32 ∧ (q.lost = true → q.queue ≠ [])

/-- Section 1.2.1 and R5 to R9: the ranges of what the tracker holds, and what each state implies. -/
abbrev Tracker.sound (t : Tracker) : Prop :=
  (∀ p, t.pGood = some p → 14286 ≤ p ∧ p ≤ 25000) ∧ t.hold ≤ 50 ∧
    (t.state = .searching → t.pGood = none ∧ t.goodRun < 3 ∧ t.hold = 0) ∧
    (t.state = .locked → t.pGood ≠ none ∧ t.goodRun = 3) ∧
    (t.state = .holdover → t.pGood ≠ none ∧ t.goodRun < 3 ∧ t.hold < 50) ∧
    (t.state = .free → t.pGood ≠ none ∧ t.goodRun < 3 ∧ t.hold = 50)

/-- R11, R18: P_s lies within 14,286..25,000 ticks, and the cycle number is that of the cycle in progress. -/
abbrev Scanner.sound (x : Scanner) : Prop :=
  ∀ c, x.cycle = some c → 14286 ≤ c.ps ∧ c.ps ≤ 25000 ∧ c.number = x.cycleNumber

/-- R11: so does the P_s of a cycle start that the scanner has not taken yet. -/
abbrev Flight.givenSound (f : Flight) : Prop := ∀ g, f.given = some g → 14286 ≤ g.ps ∧ g.ps ≤ 25000

/-- R133, R143 to R145: both copies are in range, the applied copy passes every cross-item check, and so does a
sealed pending copy. -/
abbrev Store.sound (x : Store) : Prop :=
  x.applied.inRange ∧ x.pending.inRange ∧ x.applied.crossChecked ∧ (x.isSealed = true → x.pending.crossChecked)

/-- Section 3.4, R57, R70, R91: a slot that is not defined holds nothing. -/
abbrev State.undefinedSlotsZero (s : State) : Prop := ∀ t, s.isDefined t = false → s.slots.get t = .zero

/-- R57, R60, R63: the ranges of a thermal record, and the saturation-reported mark only at the maximum. -/
abbrev Thermal.sound (x : Thermal) : Prop :=
  x.target ≤ 60000 ∧ x.rise ≤ 60000 ∧ x.exposure ≤ 4294967295 ∧ (x.satReported = true → x.exposure = 4294967295)

/-- R70, R77 to R80: the runs stay below their constants, at most one is under way, and a run that is 0 has extreme
0; the extremes lie on their side of the live level. -/
abbrev Grade.sound (m : MonitorsItem) (g : Grade) : Prop :=
  g.up < m.pUp ∧ g.down < m.pDown ∧ (g.up = 0 ∨ g.down = 0) ∧
    (g.up = 0 → g.upMin = 0) ∧ (g.down = 0 → g.downMax = 0) ∧
    (g.up ≠ 0 → g.level < g.upMin) ∧ (g.down ≠ 0 → g.downMax < g.level)

/-- R91: how an annunciation record stands to the live level n under the applied A. -/
def Signal.sound (A n : Level) (x : Signal) : Prop :=
  match x.state with
  | .quiet => n < A ∧ x.flash = 0 ∧ x.acked = 0
  | .ringback => n < A ∧ x.flash = 0
  | .steady => A ≤ n ∧ n ≤ x.acked ∧ x.flash = 0
  | .flashing => 1 ≤ x.flash ∧ n ≤ x.flash ∧ x.acked = 0

/-- R85, R91: a level change that waits for the Annunciator leads to the live level, and the annunciation record of every
defined slot stands as it should to the live level as the Annunciator has it. -/
abbrev State.signalsSound (s : State) : Prop :=
  (∀ h ∈ s.flight.changes, h.new = (s.slots.get h.slot).grade.level) ∧
    ∀ t, s.isDefined t = true → (s.slots.get t).signal.sound s.applied.general.annunciateAt (s.heardLevel t)

/-- R104: the horn line carries the tone that its source calls for, and no other. -/
abbrev State.toneSound (s : State) : Prop := s.ann.tone.map (·.source) = s.lineSource

/-- R114, R117, R120, R122, R129: what the capture state says of the ring, the counts and the trigger record. -/
abbrev Capture.sound (c : Capture) : Prop :=
  c.ring.length ≤ 48 ∧ c.depth ≤ 47 ∧ c.preKept ≤ c.depth ∧ c.missed ≤ 255 ∧
    (c.state = .armed ∨ c.state = .held →
      c.record = none ∧ c.missed = 0 ∧ c.missReported = false ∧ c.preKept = 0 ∧ c.post = 0) ∧
    (c.state = .triggered → c.record ≠ none ∧ 0 < c.post ∧ c.ring.length + c.post = 48 - c.depth + c.preKept) ∧
    (c.state = .frozen → c.record ≠ none ∧ c.post = 0 ∧ c.ring.length = 48 - c.depth + c.preKept) ∧
    (c.holdPending = true → c.state = .armed)

/-- R156, R159, R160: a reply is ready or being sent only for an answered request in service, and a request waits
as a CAPTURE HOLD exactly while the hold is pending. -/
abbrev State.linkSound (s : State) : Prop :=
  (s.link.tx ≠ .idle ↔ ∃ r, s.link.service = some r ∧ (r.stage = .answered ∨ r.stage = .restarting)) ∧
    (s.capture.holdPending = true ↔ ∃ r, s.link.service = some r ∧ r.stage = .holding)

/-- R47, R64, R85, R87, R145: while a slot's current waits its thermal step does, while that waits its grading does, while
a grading waits the Annunciator and the LEVEL triggers do, and while these wait the apply does; values stand handed over
only for a slot that waits to be graded, a level change only for one that has been graded and that the Annunciator has not
taken, one for a slot; entries and triggers wait only with the part that takes them. R11: a cycle start stands given
exactly from the tracker's taking of the completion to the scanner's taking of the start. -/
abbrev Flight.sound (f : Flight) : Prop :=
  (∀ t, .current t ∈ f.parts → .thermal t ∈ f.parts) ∧ (∀ t, .thermal t ∈ f.parts → .grade t ∈ f.parts) ∧
    (∀ t, .grade t ∈ f.parts → .annunciate t ∈ f.parts ∧ .levels ∈ f.parts) ∧
    (.levels ∈ f.parts → .settings ∈ f.parts) ∧ (∀ t, .annunciate t ∈ f.parts → .settings ∈ f.parts) ∧
    (∀ h ∈ f.changes, .annunciate h.slot ∈ f.parts ∧ .grade h.slot ∉ f.parts) ∧ (f.changes.map (·.slot)).Nodup ∧
    (f.entries ≠ [] → .entries ∈ f.parts) ∧ (f.steps ≠ [] → .steps ∈ f.parts) ∧ (f.levels ≠ [] → .levels ∈ f.parts) ∧
    (∀ h ∈ f.handed, .grade h.slot ∈ f.parts) ∧ (.count ∈ f.parts → .start ∈ f.parts) ∧
    (f.given ≠ Option.none ↔ .start ∈ f.parts ∧ .count ∉ f.parts)

/-- A safe run is one whose states are sound in every block. -/
abbrev State.sound (s : State) : Prop :=
  s.notices.sound ∧ s.tracker.sound ∧ s.scanner.sound ∧ s.flight.givenSound ∧ s.store.sound ∧ s.undefinedSlotsZero ∧
    (∀ t, (s.slots.get t).thermal.sound) ∧
    (∀ t, s.isDefined t = true → (s.slots.get t).grade.sound (s.applied.monitors.get t)) ∧
    s.signalsSound ∧ s.toneSound ∧ s.capture.sound ∧ s.linkSound ∧ s.flight.sound

end Sys2Proof.Machine
end

