-- ==== Sys2Proof/Certificates/Slice0/Obligations.lean ====
section
/-! DEFINITION. The statements for the provers. Each docstring says which rule or which sentence of the manual it
formalises. -/

open Sys2Proof Sys2Proof.Machine

/-! ## The step -/

/-- One step runs the command at the front of the queue on the state with the queue's rest. -/
def Obligations.StepRunsTheFrontCommand : Prop :=
  ∀ (c : Instr) (rest : List Instr) (s : State), s.pending = c :: rest → step s = exec c { s with pending := rest }

/-- On an empty queue one tick passes (R2, R101, R154, R155); the MODEL's choice, notes/assumptions/2.md. -/
def Obligations.EmptyQueueStepIsOneTick : Prop :=
  ∀ s : State, s.pending = [] →
    (s.time.phase = .starting → s.time.startTicks < 8000 →
      step s = .next { s with time := { s.time with startTicks := s.time.startTicks + 1 } }) ∧
    (s.time.phase = .starting → 8000 ≤ s.time.startTicks → step s = .next s) ∧
    (s.time.phase = .running → s.eventDue = true → step s = .next s) ∧
    (s.time.phase = .running → s.eventDue = false →
      step s = .next { s with
        tracker := { s.tracker with ticks := s.tracker.ticks + 1 }
        scanner := { s.scanner with cycle := s.scanner.cycle.map fun c => { c with ticks := c.ticks + 1 } }
        ann := { s.ann with beatTicks := s.ann.beatTicks + 1, hornReset := false, lampReset := false }
        link := { s.link with
          byteTicks := if s.link.receiver = .hunting then s.link.byteTicks else s.link.byteTicks + 1
          txTicks := match s.link.tx with
            | .sending _ => s.link.txTicks + 1
            | .idle | .waitHrdy _ => s.link.txTicks } })

/-! ## Reset and start-up -/

/-- What power-on reset leaves in every block (R21, R39, R56, R57, R70, R91, R113, R114, R149, R163, R168), and that
the state after reset is that of a power-on reset. The waiting commands stay queued (notes/assumptions/4.md); what the
manual does not give is in notes/assumptions/18.md, the strap levels of the reset in notes/assumptions/1.md. -/
def Obligations.PowerOnResetValues : Prop :=
  (State.reset.pending = [] ∧
    ∃ rate fnom, ∀ s : State, s.pending = [] → exec (.powerOnReset rate fnom) s = .next State.reset) ∧
  ∀ (rate : BitVec 2) (fnom : Fnom) (s : State), ∃ t, exec (.powerOnReset rate fnom) s = .next t ∧
    t.pending = s.pending ∧
    t.time = { phase := .starting, startTicks := 0, rate := rate, fnom := fnom } ∧
    t.tracker = { state := .searching, pGood := none, goodRun := 0, hold := 0, reference := false, ticks := 0 } ∧
    t.scanner = { cycleNumber := 0, cycle := none } ∧
    (∀ i, t.cond.channels.get i =
      { state := .disabled, stuckRun := 0, cleanRun := 0, lastCq := 32768, sum := 0, count := 0, clipSeen := false,
        degradedSeen := false, lastValid := none
        result := { mq := 32768, current := 0, k := 0, held := true, clipped := false, degraded := false,
                    neverValid := true } }) ∧
    t.cond.epochCycles = 0 ∧ t.cond.epochNumber = 0 ∧ t.cond.selfCheck = .none ∧ t.cond.verdict = .none ∧
    t.cond.origin = none ∧ t.cond.autoCount = 0 ∧
    (∀ u, t.slots.get u =
      { cur := { ieff := 0, held := false, clipped := false, degraded := false }
        thermal := { target := 0, rise := 0, exposure := 0, satReported := false }
        grade := { level := 0, prevC := 0, prevR := 0, prevE := 0, up := 0, upMin := 0, down := 0, downMax := 0 }
        signal := { state := .quiet, flash := 0, acked := 0 } }) ∧
    t.ann = { silenced := false, hornPos := 0, chirp := 0, fastPos := 0, slowPos := 0, debounce := .idle,
              beatTicks := 0, tone := none, hornReset := false, lampReset := false } ∧
    t.capture = { state := .armed, ring := [], depth := 0, preKept := 0, post := 0, record := none, missed := 0,
                  missReported := false, holdPending := false, current := none } ∧
    t.store.isSealed = false ∧ t.store.pending = t.store.applied ∧
    t.store.applied.general = { epochCycles := if fnom = .hz50 then 50 else 60, checkInterval := 600, attention := true,
                                annunciateAt := 2, captureLevel := 2, preDepth := 16 } ∧
    (∀ i, t.store.applied.channels.get i = { enabled := false, trim := 0, gain := 0, stepThreshold := 0 }) ∧
    (∀ u, t.store.applied.transformers.get u =
      { defined := false, terms := [], tauUp := 1, tauDown := 1, floor := 0 }) ∧
    (∀ u, t.store.applied.curves.get u = []) ∧
    (∀ u, t.store.applied.monitors.get u =
      { c := { l1 := 0, l2 := 0, l3 := 0 }, r := { l1 := 0, l2 := 0, l3 := 0 }, e := { l1 := 0, l2 := 0, l3 := 0 }
        hC := 0, hR := 0, pUp := 1, pDown := 1 }) ∧
    (∀ k, t.store.applied.contacts.get k = { enabled := false, source := .none, sense := .energizeWhenTrue }) ∧
    t.store.applied.annunciator =
      { hornTone := 3, loudness := 1, horn1 := { steps := 1, width := 8 }, horn2 := { steps := 1, width := 2 }
        horn3 := { steps := 1, width := 1 }, fast := { steps := 1, width := 2 }, slow := { steps := 15, width := 8 }
        chirpEnable := true, chirpTone := 0 } ∧
    t.link = { receiver := .hunting, byteTicks := 0, service := none, dropped := false, tx := .idle, txTicks := 0 } ∧
    t.notices = { queue := [], lost := false } ∧
    t.flight =
      { parts := [], entries := [], steps := [], levels := [], handed := [], changes := [], given := none }

/-- In STARTING no reference, sample, beat, byte or request is taken (R1). -/
def Obligations.StartingTakesNothing : Prop :=
  ∀ s : State, s.time.phase = .starting →
    exec .zrefRisingCrossing s = .next s ∧ exec .missingCrossingExpiry s = .next s ∧ exec .sampleSlot s = .next s ∧
    (∀ v, exec (.conversionComplete v) s = .next s) ∧
    (∀ o w h, exec (.cycleCompletion o w h) s = .next s) ∧ (∀ o w h, exec (.epochCompletion o w h) s = .next s) ∧
    (∀ a, exec (.beatExpiry a) s = .next s) ∧ (∀ b f e, exec (.byteTaken b f e) s = .next s) ∧
    exec .interByteExpiry s = .next s ∧ exec .frameDropped s = .next s ∧ exec .replySent s = .next s ∧
    (∀ k t p h, exec (.requestUnknownKind k t p h) s = .next s) ∧
    ∀ (k : RequestKind) t p h, exec (k.command t p h) s = .next s

/-- R2, R12, R36: at the 8,000th tick of STARTING the part is RUNNING and the first cycle starts, nominal and degraded; it
carries a self-check if one is SCHEDULED, which is then RUNNING. -/
def Obligations.StartingEndStartsTheFirstCycle : Prop :=
  ∀ s : State, s.time.phase = .starting → s.time.startTicks = 8000 → s.tracker.state = .searching →
    let ps := if s.time.fnom = .hz50 then 20000 else 16667
    let chans := (List.finRange 16).filter fun i => (s.store.applied.channels.get i).enabled
    let check := decide (s.cond.selfCheck = .scheduled)
    let cycle : Cycle :=
      { number := s.scanner.cycleNumber, ps := ps, degraded := true, selfCheck := check, refSum := 0, gndSum := 0
        sums := chans.map fun i => { chan := i, sum := 0, clip := false, allLow := true, allHigh := true }
        ticks := 0, slot := 0, conversions := [], converted := 0 }
    let frame : Frame :=
      { number := s.scanner.cycleNumber, ps := ps, degraded := true
        channels := chans.map fun i => { chan := i, codes := [], clip := false } }
    exec .startingEnd s = .next { s with
      time := { s.time with phase := .running }
      scanner := { s.scanner with cycle := some cycle }
      cond := { s.cond with selfCheck := if check then .running else s.cond.selfCheck }
      capture := { s.capture with current := some { frame := frame, kept := true } } }

/-! ## The Cycle Tracker -/

/-- R3, R5, R6, R7, R9: a crossing without a crossing reference measures no period; what a good period does in each
tracker state, with the notice of R10. -/
def Obligations.CrossingsAndGoodPeriods : Prop :=
  (∀ s : State, s.time.phase = .running → s.tracker.reference = false →
    exec .zrefRisingCrossing s = .next { s with tracker := { s.tracker with reference := true, ticks := 0 } }) ∧
  ∀ (s : State) (p : Nat), s.time.phase = .running → s.tracker.reference = true → s.tracker.ticks = p →
    14286 ≤ p → p ≤ 25000 →
    (s.tracker.state = .locked → exec .zrefRisingCrossing s =
      .next { s with tracker := { s.tracker with reference := true, ticks := 0, pGood := some p } }) ∧
    (s.tracker.state ≠ .locked → s.tracker.goodRun < 2 → exec .zrefRisingCrossing s =
      .next { s with tracker := { s.tracker with reference := true, ticks := 0, goodRun := s.tracker.goodRun + 1 } }) ∧
    (s.tracker.state = .searching → s.tracker.goodRun = 2 → exec .zrefRisingCrossing s =
      .next { s with tracker := { s.tracker with
        reference := true, ticks := 0, goodRun := 3, pGood := some p, state := .locked } }) ∧
    (s.tracker.state = .holdover ∨ s.tracker.state = .free → s.tracker.goodRun = 2 → exec .zrefRisingCrossing s =
      .next { s with
        tracker := { s.tracker with reference := true, ticks := 0, goodRun := 3, pGood := some p, state := .locked }
        notices := s.notices.arrive { epoch := s.cond.epochNumber, body := .referenceRestored p } })

/-- R3, R4, R5, R6, R7, R9: what a bad period does in each tracker state, measured or counted by the missing-crossing
expiry, with the notice of R10; the expiry also makes the crossing reference absent. -/
def Obligations.BadPeriodsByTrackerState : Prop :=
  (∀ s : State, s.time.phase = .running → s.tracker.reference = true → s.tracker.ticks < 14286 →
    (s.tracker.state = .locked → exec .zrefRisingCrossing s = .next { s with
      tracker := { s.tracker with reference := true, ticks := 0, state := .holdover, hold := 0, goodRun := 0 }
      notices := s.notices.arrive { epoch := s.cond.epochNumber, body := .referenceLost } }) ∧
    (s.tracker.state ≠ .locked → exec .zrefRisingCrossing s =
      .next { s with tracker := { s.tracker with reference := true, ticks := 0, goodRun := 0 } })) ∧
  ∀ s : State, s.time.phase = .running → s.tracker.ticks = 25000 →
    (s.tracker.state = .locked → exec .missingCrossingExpiry s = .next { s with
      tracker := { s.tracker with reference := false, ticks := 0, state := .holdover, hold := 0, goodRun := 0 }
      notices := s.notices.arrive { epoch := s.cond.epochNumber, body := .referenceLost } }) ∧
    (s.tracker.state ≠ .locked → exec .missingCrossingExpiry s =
      .next { s with tracker := { s.tracker with reference := false, ticks := 0, goodRun := 0 } })

/-! ## The Sample Scanner -/

/-- R13, R14: how far apart slots and completion stand over the range of P_s; and a sample slot sets out its
conversions, the listed channels and then those of a self-check. -/
def Obligations.SampleSlotsAndTheirConversions : Prop :=
  (∀ ps : Nat, 14286 ≤ ps → ps ≤ 25000 →
    slotTime ps 0 = 0 ∧ (∀ k, k < 31 → slotTime ps k + 446 ≤ slotTime ps (k + 1)) ∧
    slotTime ps 31 + 447 ≤ ps ∧ ps ≤ slotTime ps 31 + 782) ∧
  ∀ (s : State) (c : Cycle), s.time.phase = .running → s.scanner.cycle = some c → c.slot < 32 →
    c.ticks = c.slot * c.ps / 32 →
    exec .sampleSlot s = .next { s with scanner := { s.scanner with cycle := some { c with
      slot := c.slot + 1, converted := 0
      conversions := (c.sums.map fun x => .channel x.chan) ++ if c.selfCheck then [.reference, .ground] else [] } } }

/-- R14, R15, R16, R17: the converter's code; it enters the sums of its channel and the open frame, or the sum of its
self-check input and no frame; a frame whose kept mark is clear (R115) collects nothing. An input in whole µV is the
MODEL's unit (notes/assumptions/10.md). -/
def Obligations.ConversionEntersItsSum : Prop :=
  (∀ v : Int, (v < 0 → adcCode v = 0) ∧ (2500000 ≤ v → adcCode v = 4095) ∧
    (0 ≤ v → v < 2500000 →
      ((adcCode v).toNat : Int) * 2500000 ≤ v * 4096 ∧ v * 4096 < (((adcCode v).toNat : Int) + 1) * 2500000)) ∧
  ∀ (s : State) (c : Cycle) (rest : List ConvInput) (v : Int), s.time.phase = .running →
    s.scanner.cycle = some c → c.ticks = slotTime c.ps (c.slot - 1) + 10 * (c.converted + 1) →
    (∀ i, c.conversions = .channel i :: rest → (∀ f, s.capture.current = some f → f.kept = false) →
      exec (.conversionComplete v) s = .next { s with
        scanner := { s.scanner with cycle := some { c with
          conversions := rest, converted := c.converted + 1
          sums := c.sums.map fun x => if x.chan = i then { x with
            sum := x.sum + (adcCode v).toNat
            clip := x.clip || adcCode v == 0 || adcCode v == 4095
            allLow := x.allLow && decide ((adcCode v).toNat ≤ 4)
            allHigh := x.allHigh && decide (4091 ≤ (adcCode v).toNat) } else x } } }) ∧
    (∀ i f, c.conversions = .channel i :: rest → s.capture.current = some f → f.kept = true →
      exec (.conversionComplete v) s = .next { s with
        scanner := { s.scanner with cycle := some { c with
          conversions := rest, converted := c.converted + 1
          sums := c.sums.map fun x => if x.chan = i then { x with
            sum := x.sum + (adcCode v).toNat
            clip := x.clip || adcCode v == 0 || adcCode v == 4095
            allLow := x.allLow && decide ((adcCode v).toNat ≤ 4)
            allHigh := x.allHigh && decide (4091 ≤ (adcCode v).toNat) } else x } }
        capture := { s.capture with current := some { f with frame := { f.frame with
          channels := f.frame.channels.map fun x => if x.chan = i then { x with
            codes := x.codes ++ [adcCode v]
            clip := x.clip || adcCode v == 0 || adcCode v == 4095 } else x } } } }) ∧
    (c.conversions = .reference :: rest → exec (.conversionComplete v) s = .next { s with
      scanner := { s.scanner with cycle := some { c with
        conversions := rest, converted := c.converted + 1, refSum := c.refSum + (adcCode v).toNat } } }) ∧
    (c.conversions = .ground :: rest → exec (.conversionComplete v) s = .next { s with
      scanner := { s.scanner with cycle := some { c with
        conversions := rest, converted := c.converted + 1, gndSum := c.gndSum + (adcCode v).toNat } } })

/-! ## The cycle completion -/

/-- R18, R8, R11, R12, R25, R36, R115: whatever the order of its parts, a cycle completion that ends no epoch is taken
whole: the counts advance, the tracker takes it, and the next cycle starts on the period and mark that the tracker gives,
with the self-check that is SCHEDULED and a frame of its own. Taken in parts, the tracker chooses the period as it counts,
and what it gave stands, whatever has become of the tracker when the scanner takes the start. -/
def Obligations.CycleCompletionStartsTheNextCycle : Prop :=
  (∀ (s : State) (c : Cycle) (order : List CompletionPart) (hrdy : Bool), s.completes c →
    s.cond.epochCycles + 1 ≠ s.store.applied.general.epochCycles →
    ∃ t, exec (.cycleCompletion order true hrdy) s = .next t ∧
      t = { s with tracker := t.tracker, scanner := t.scanner, cond := t.cond, capture := t.capture, link := t.link,
                   notices := t.notices, flight := t.flight } ∧
      (s.capture.holdPending = false → t.link = s.link) ∧ s.notices.queue <+: t.notices.queue ∧
      (c.selfCheck = false → s.cond.selfCheck ≠ .scheduled → t.cond.selfCheck = s.cond.selfCheck ∧
        t.cond.verdict = s.cond.verdict ∧ t.cond.origin = s.cond.origin ∧ t.cond.autoCount = s.cond.autoCount) ∧
      (c.selfCheck = false → s.cond.selfCheck = .scheduled → t.cond.selfCheck = .running ∧
        t.cond.verdict = s.cond.verdict ∧ t.cond.origin = s.cond.origin ∧ t.cond.autoCount = s.cond.autoCount) ∧
      t.flight.parts = [] ∧ t.cond.epochCycles = s.cond.epochCycles + 1 ∧ t.cond.epochNumber = s.cond.epochNumber ∧ s.countedBy t ∧
      ∃ ps, t.givesPeriod ps ∧ s.opensCycle t ps (decide (t.tracker.state ≠ .locked))
        (decide (s.cond.selfCheck = .scheduled) && !c.selfCheck)) ∧
  ∀ (s : State) (hrdy : Bool), s.time.phase = .running → .settings ∉ s.flight.parts →
    (.count ∈ s.flight.parts → ∃ t g, exec (.cycleCompletion [.count] false hrdy) s = .next t ∧
      t = { s with tracker := t.tracker, notices := t.notices, flight := { s.flight with
              parts := s.flight.parts.filter (· ≠ .count), given := some g } } ∧
      s.countedBy t ∧ t.givesPeriod g.ps ∧ g.degraded = decide (t.tracker.state ≠ .locked)) ∧
    ∀ g, .start ∈ s.flight.parts → (∀ q ∈ [CompletionPart.entries, .frame, .count], q ∉ s.flight.parts) →
      s.flight.given = some g →
      ∃ t, exec (.cycleCompletion [.start] false hrdy) s = .next t ∧
        t = { s with scanner := t.scanner, cond := t.cond, capture := t.capture, flight := t.flight } ∧
        s.opensCycle t g.ps g.degraded (decide (s.cond.selfCheck = .scheduled))

/-- R22, R23, R24: what a cycle completion does to each channel's record, whatever the order of its parts; and taking the
entries one by one is taking the record. -/
def Obligations.ChannelEntriesOfACompletion : Prop :=
  (∀ (s : State) (c : Cycle) (n : Nat) (hrdy : Bool), s.completes c →
    exec (.cycleCompletion (List.replicate n .nextEntry ++ [.entries]) false hrdy) s =
      exec (.cycleCompletion [.entries] false hrdy) s) ∧
  ∀ (s : State) (c : Cycle) (order : List CompletionPart) (hrdy : Bool), s.completes c →
    (c.sums.map (·.chan)).Nodup →
    ∃ t, exec (.cycleCompletion order true hrdy) s = .next t ∧
      (∀ i, i ∉ c.sums.map (·.chan) → t.cond.channels.get i = s.cond.channels.get i) ∧
      ∀ x ∈ c.sums,
        let r := s.cond.channels.get x.chan
        let q := t.cond.channels.get x.chan
        let stuck := x.allLow || x.allHigh
        (r.state = .disabled → q = r) ∧
        (r.state ≠ .disabled →
          q.lastCq = (x.sum + 1) / 2 ∧ q.result = r.result ∧ q.lastValid = r.lastValid ∧
          (stuck = true → q.stuckRun = min 3 (r.stuckRun + 1) ∧ q.cleanRun = 0 ∧ q.sum = r.sum ∧ q.count = r.count ∧
            q.clipSeen = r.clipSeen ∧ q.degradedSeen = r.degradedSeen ∧
            q.state = if r.state = .ok ∧ 2 ≤ r.stuckRun then .fault else r.state) ∧
          (stuck = false → q.stuckRun = 0 ∧ q.cleanRun = min 3 (r.cleanRun + 1) ∧ q.sum = r.sum + x.sum ∧
            q.count = r.count + 1 ∧ q.clipSeen = (r.clipSeen || x.clip) ∧
            q.degradedSeen = (r.degradedSeen || c.degraded) ∧
            q.state = if r.state = .fault ∧ 2 ≤ r.cleanRun then .ok else r.state) ∧
          (r.state = .ok ∧ q.state = .fault → s.told t (.channelFault x.chan)) ∧
          (r.state = .fault ∧ q.state = .ok → s.told t (.channelRecovered x.chan)))

/-- R35, R36, R37: the verdict of the self-check that the completed cycle carried, and the automatic self-check at an
epoch completion. -/
def Obligations.SelfCheckVerdictAndSchedule : Prop :=
  (∀ (s : State) (c : Cycle) (hrdy : Bool), s.completes c → c.selfCheck = true →
    let refMean := (c.refSum + 16) / 32
    let gndMean := (c.gndSum + 16) / 32
    let pass := decide (1926 ≤ refMean) && decide (refMean ≤ 2006) && decide (gndMean ≤ 40)
    ∃ t, exec (.cycleCompletion [.entries] false hrdy) s = .next t ∧ t.cond.autoCount = 0 ∧
      (pass = true → t.cond.selfCheck = .pass ∧ t.cond.verdict = .pass) ∧
      (pass = false → t.cond.selfCheck = .fail ∧ t.cond.verdict = .fail) ∧
      (s.cond.origin = some .request ∨ s.cond.verdict ≠ t.cond.verdict →
        s.told t (.selfCheckResult pass refMean gndMean)) ∧
      (s.cond.origin ≠ some .request → s.cond.verdict = t.cond.verdict → c.sums = [] → t.notices = s.notices)) ∧
  ∀ (s : State) (hrdy : Bool), s.epochCompletes →
    ∃ t, exec (.epochCompletion [] false hrdy) s = .next t ∧ t.cond.verdict = s.cond.verdict ∧
      (s.cond.selfCheck = .scheduled ∨ s.cond.selfCheck = .running →
        t.cond.selfCheck = s.cond.selfCheck ∧ t.cond.autoCount = s.cond.autoCount ∧ t.cond.origin = s.cond.origin) ∧
      (s.cond.selfCheck = .none ∨ s.cond.selfCheck = .pass ∨ s.cond.selfCheck = .fail →
        let n := min 3600 (s.cond.autoCount + 1)
        let interval := s.store.applied.general.checkInterval
        t.cond.autoCount = n ∧
        (interval ≠ 0 ∧ interval ≤ n → t.cond.selfCheck = .scheduled ∧ t.cond.origin = some .automatic) ∧
        (interval = 0 ∨ n < interval → t.cond.selfCheck = s.cond.selfCheck ∧ t.cond.origin = s.cond.origin))

/-- R116, R117, R118: where the completed frame goes, by the capture state, when no trigger falls at the completion; also
when the cycle ends an epoch and the frame waits still as the epoch completes. -/
def Obligations.CompletedFrameByCaptureState : Prop :=
  (∀ (s : State) (c : Cycle) (f : OpenFrame) (order : List CompletionPart) (hrdy : Bool), s.completes c →
    s.cond.epochCycles + 1 ≠ s.store.applied.general.epochCycles → s.unwatched →
    s.capture.current = some f → s.capture.holdPending = false →
    ∃ t, exec (.cycleCompletion order true hrdy) s = .next t ∧ s.takesFrame t f) ∧
  ∀ (s : State) (f : OpenFrame) (order : List CompletionPart) (hrdy : Bool), s.epochCompletes →
    .frame ∈ s.flight.parts → s.flight.steps = [] → s.store.applied.general.captureLevel = 0 →
    s.capture.current = some f → s.capture.holdPending = false →
    ∃ t, exec (.epochCompletion order true hrdy) s = .next t ∧ s.nextEpoch.takesFrame t f

/-- R126, R160: the first cycle completion grants a pending hold, after it has dealt with the completing frame, and the
HOLD is answered DONE; with HRDY asserted the reply starts at once. -/
def Obligations.PendingHoldIsGranted : Prop :=
  (∀ (s : State) (c : Cycle) (r : Service) (order : List CompletionPart), s.completes c →
    s.cond.epochCycles + 1 ≠ s.store.applied.general.epochCycles → s.unwatched →
    s.capture.holdPending = true → s.capture.state = .armed → s.link.service = some r →
    ∃ t, exec (.cycleCompletion order true false) s = .next t ∧ t.capture.state = .held ∧
      t.capture.holdPending = false ∧ t.link.service = some { r with stage := .answered } ∧
      t.link.tx = .waitHrdy { kind := r.kind ||| 0x80, tag := r.tag, status := .done, body := [] } ∧
      (∀ f, s.capture.current = some f → f.kept = true → s.capture.ring.length < 48 →
        t.capture.ring = s.capture.ring ++ [f.frame]) ∧
      (∀ f, s.capture.current = some f → f.kept = true → s.capture.ring.length = 48 →
        t.capture.ring = s.capture.ring.tail ++ [f.frame]) ∧
      ((∀ f, s.capture.current = some f → f.kept = false) → t.capture.ring = s.capture.ring)) ∧
  ∀ (s : State) (c : Cycle) (r : Service) (hrdy : Bool), s.completes c →
    s.capture.holdPending = true → s.capture.state = .armed → s.link.service = some r →
    let ring := match s.capture.current with
      | some f =>
        if f.kept then (s.capture.ring ++ [f.frame]).drop (s.capture.ring.length + 1 - 48) else s.capture.ring
      | none => s.capture.ring
    exec (.cycleCompletion [.frame] false hrdy) s =
      .next (({ s with
        capture := { s.capture with ring := ring, state := .held, holdPending := false, current := none }
        flight := { s.flight with
          parts := [.entries, .steps, .count, .start], entries := c.sums, steps := s.stepsOf c } }).replied
          r.kind r.tag r.payload .answered .done [] hrdy)

/-- R30, R31, R119 to R122, R126, R165: at a cycle completion exactly the channels that step hand STEP triggers, in the record's
order, which Capture Memory takes before the Conditioner's taking of the entries or after it, and its notices stand
accordingly; the first triggers an ARMED ring, pre-empting a pending hold, or revokes a hold, and the others are missed;
in TRIGGERED and FROZEN all are missed. -/
def Obligations.StepTriggersAnArmedRing : Prop :=
  ∀ (s : State) (c : Cycle) (hrdy : Bool), s.completes c → s.capture.missed ≤ 255 →
    let trs := s.stepsOf c
    let depth := s.store.applied.general.preDepth
    let kept := min s.capture.ring.length depth
    (∀ order ∈ [[], [CompletionPart.entries]], ∃ t, exec (.cycleCompletion order false hrdy) s = .next t ∧
      t.flight.steps = trs ∧ t.capture = s.capture) ∧
    (∃ x y, exec (.cycleCompletion [.steps] false hrdy) s = .next x ∧
      exec (.cycleCompletion [.steps, .entries] false hrdy) s = .next y ∧ x.cond = s.cond ∧
      x.notices.queue <+: y.notices.queue) ∧
    ∀ order ∈ [[CompletionPart.steps], [.entries, .steps], [.steps, .entries]],
      ∃ t, exec (.cycleCompletion order false hrdy) s = .next t ∧ t.flight.steps = [] ∧
      (trs = [] → t.capture = s.capture ∧ t.link = s.link) ∧
      (s.capture.state ≠ .armed ∨ s.capture.holdPending = false → t.link = s.link) ∧
      ∀ first others, trs = first :: others →
        let taken := { s.capture with
          depth := depth, preKept := kept, ring := s.capture.ring.drop (s.capture.ring.length - kept)
          post := 48 - depth, record := some first, state := .triggered
          missed := min 255 (s.capture.missed + others.length)
          missReported := s.capture.missReported || !others.isEmpty }
        (s.capture.state = .armed → t.capture = { taken with holdPending := false }) ∧
        (s.capture.state = .armed → s.capture.holdPending = true → ∀ r, s.link.service = some r →
          t.link.service = some { r with stage := .answered } ∧
          (hrdy = false →
            t.link.tx = .waitHrdy { kind := r.kind ||| 0x80, tag := r.tag, status := .busy, body := [] })) ∧
        (s.capture.state = .held → t.capture = taken ∧ s.told t (.holdRevoked first.cause)) ∧
        (s.capture.state = .armed ∨ s.capture.state = .held → ∀ second rest, others = second :: rest →
          s.capture.missReported = false → s.told t (.captureMissed second.cause)) ∧
        (s.capture.state = .triggered ∨ s.capture.state = .frozen →
          t.capture = { s.capture with missed := min 255 (s.capture.missed + trs.length), missReported := true } ∧
          (s.capture.missReported = false → s.told t (.captureMissed first.cause)))

/-! ## The epoch completion -/

/-- R25, R43, R47, R49, R57, R64, R71, and R8, R11, R12, R36: at an epoch completion without a sealed set every defined slot
goes through its chain exactly once on the results of the ended epoch, and the other slots through none, whatever the order
taken; where the count and the start of the cycle completion of that instant wait still, they are taken as at any other. -/
def Obligations.EpochCompletionRunsEveryChainOnce : Prop :=
  ∀ (s : State) (order : List CompletionPart) (hrdy : Bool), s.epochCompletes → s.store.isSealed = false →
    ∃ t, exec (.epochCompletion order true hrdy) s = .next t ∧
      t.pending = s.pending ∧ t.time = s.time ∧ t.store = s.store ∧
      (.count ∈ s.flight.parts → s.nextEpoch.countedBy t) ∧ (.count ∉ s.flight.parts → t.tracker = s.tracker) ∧
      (.start ∉ s.flight.parts → t.scanner = s.scanner) ∧
      (.start ∈ s.flight.parts →
        let interval := s.store.applied.general.checkInterval
        let check := decide (s.cond.selfCheck = .scheduled) ||
          (decide (s.cond.selfCheck ≠ .running) && decide (interval ≠ 0 ∧ interval ≤ min 3600 (s.cond.autoCount + 1)))
        (.count ∈ s.flight.parts → ∃ ps, t.givesPeriod ps ∧
          s.opensCycle t ps (decide (t.tracker.state ≠ .locked)) check) ∧
        (.count ∉ s.flight.parts → ∀ g, s.flight.given = some g → s.opensCycle t g.ps g.degraded check) ∧
        (.count ∈ s.flight.parts ∨ s.flight.given ≠ none →
          t.cond.selfCheck = if check then .running else s.cond.selfCheck)) ∧
      (s.capture.holdPending = false → t.link = s.link) ∧ s.notices.queue <+: t.notices.queue ∧
      t.flight.parts = [] ∧ t.cond.epochCycles = 0 ∧
      t.cond.epochNumber = s.cond.epochNumber + 1 ∧
      (∀ i, t.cond.channels.get i = (s.cond.channels.get i).closeEpoch (s.store.applied.channels.get i)) ∧
      ∀ u,
        let x := s.slots.get u
        let item := s.store.applied.transformers.get u
        let cur := slotCurrent t.cond.channels item.terms
        let th := x.thermal.step item (s.store.applied.curves.get u) cur.ieff.natAbs
        let g := x.grade.evaluate (s.store.applied.monitors.get u) cur.ieff.natAbs th.rise th.exposure
        (item.defined = false → t.slots.get u = x) ∧
        (item.defined = true → t.slots.get u =
          { cur := cur, thermal := th, grade := g
            signal := if g.level = x.grade.level then x.signal
              else (x.signal.levelChange s.store.applied.general.annunciateAt x.grade.level g.level).1 })

/-- R26, R27, R28: the epoch result of each channel that is OK or FAULT. -/
def Obligations.ChannelResultsOfAnEpoch : Prop :=
  ∀ (s : State) (order : List CompletionPart) (hrdy : Bool) (i : Fin 16), s.epochCompletes →
    s.store.isSealed = false → (s.cond.channels.get i).state ≠ .disabled →
    (s.store.applied.channels.get i).inRange →
    (s.cond.channels.get i).sum ≤ 131040 * (s.cond.channels.get i).count →
    ∃ t, exec (.epochCompletion order true hrdy) s = .next t ∧
      let r := s.cond.channels.get i
      let q := t.cond.channels.get i
      let item := s.store.applied.channels.get i
      q.state = r.state ∧ q.stuckRun = r.stuckRun ∧ q.cleanRun = r.cleanRun ∧ q.lastCq = r.lastCq ∧
      q.sum = 0 ∧ q.count = 0 ∧ q.clipSeen = false ∧ q.degradedSeen = false ∧ q.result.k = r.count ∧
      (1 ≤ r.count →
        q.result.mq = (r.sum + r.count) / (2 * r.count) ∧ q.result.mq ≤ 65520 ∧
        roundedAway (((q.result.mq : Int) - 32768 - item.trim) * item.gain) 65536 q.result.current ∧
        -17408 ≤ q.result.current ∧ q.result.current ≤ 17408 ∧ q.result.clipped = r.clipSeen ∧
        q.result.degraded = r.degradedSeen ∧ q.result.held = false ∧ q.result.neverValid = false ∧
        q.lastValid = some (q.result.mq, q.result.current)) ∧
      (r.count = 0 → q.result.held = true ∧ q.result.clipped = false ∧ q.result.degraded = false ∧
        q.lastValid = r.lastValid ∧
        (∀ mq cur, r.lastValid = some (mq, cur) →
          q.result.mq = mq ∧ q.result.current = cur ∧ q.result.neverValid = false) ∧
        (r.lastValid = none → q.result.mq = 32768 ∧ q.result.current = 0 ∧ q.result.neverValid = true))

/-- R44, R45, R46: the effective current of a slot and its quality flags; nothing else moves. -/
def Obligations.EffectiveCurrentOfASlot : Prop :=
  ∀ (s : State) (u : Fin 8) (hrdy : Bool), s.awaits (.current u) → (s.store.applied.transformers.get u).defined = true →
    ∃ t, exec (.epochCompletion [.current u] false hrdy) s = .next t ∧
      t = { s with
        slots := t.slots, flight := { s.flight with parts := s.flight.parts.filter (· ≠ .current u) } } ∧
      t.slots = s.slots.set u { s.slots.get u with cur := (t.slots.get u).cur } ∧
      let terms := (s.store.applied.transformers.get u).terms
      let result := fun w : Term => (s.cond.channels.get w.chan).result
      let x := (terms.map fun w => w.weight * (result w).current).sum
      let cur := (t.slots.get u).cur
      (x.natAbs < 32767 * 1024 + 512 → roundedAway x 1024 cur.ieff) ∧
      (32767 * 1024 + 512 ≤ x → cur.ieff = 32767) ∧ (x ≤ -(32767 * 1024 + 512) → cur.ieff = -32767) ∧
      (cur.held = true ↔ ∃ w ∈ terms, (result w).held = true) ∧
      (cur.clipped = true ↔ ∃ w ∈ terms, (result w).clipped = true) ∧
      (cur.degraded = true ↔ ∃ w ∈ terms, (result w).degraded = true)

/-- R59, R60, R62, R63, R64: target, rise and exposure after a slot's thermal step, from the magnitude of its current;
what is handed on; saturation is reported once, and the mark stands only at the maximum. -/
def Obligations.ThermalStepOfASlot : Prop :=
  (∀ (s : State) (u : Fin 8) (hrdy : Bool), s.awaits (.thermal u) → (s.store.applied.transformers.get u).defined = true →
    curveOk (s.store.applied.curves.get u) → curveInRange (s.store.applied.curves.get u) →
    (s.store.applied.transformers.get u).inRange → (s.slots.get u).thermal.rise ≤ 60000 →
    ∃ t, exec (.epochCompletion [.thermal u] false hrdy) s = .next t ∧
      let a := (s.slots.get u).cur.ieff.natAbs
      let item := s.store.applied.transformers.get u
      let curve := s.store.applied.curves.get u
      let x := (s.slots.get u).thermal
      let y := (t.slots.get u).thermal
      (∀ b, curve.getLast? = some b → b.current ≤ a → y.target = b.rise) ∧
      (∀ before after p q, { current := 0, rise := 0 } :: curve = before ++ p :: q :: after → p.current ≤ a →
        a < q.current → ∃ r, roundedUp ((a - p.current) * (q.rise - p.rise)) (q.current - p.current) r ∧
          y.target = p.rise + r) ∧
      (x.rise = y.target → y.rise = x.rise) ∧
      (x.rise < y.target → ∃ d, isCeiling (y.target - x.rise) item.tauUp d ∧ y.rise = x.rise + d ∧
        x.rise < y.rise ∧ y.rise ≤ y.target) ∧
      (y.target < x.rise → ∃ d, isCeiling (x.rise - y.target) item.tauDown d ∧ y.rise + d = x.rise ∧
        y.rise < x.rise ∧ y.target ≤ y.rise) ∧
      y.rise ≤ 60000 ∧ y.exposure = min 4294967295 (x.exposure + (a - item.floor))) ∧
  ∀ (s : State) (u : Fin 8) (hrdy : Bool), s.awaits (.thermal u) → (s.store.applied.transformers.get u).defined = true →
    (s.slots.get u).thermal.sound →
    ∃ t, exec (.epochCompletion [.thermal u] false hrdy) s = .next t ∧
      t = { s with slots := t.slots, notices := t.notices, flight := t.flight } ∧
      t.slots = s.slots.set u { s.slots.get u with thermal := (t.slots.get u).thermal } ∧
      let x := (s.slots.get u).thermal
      let y := (t.slots.get u).thermal
      t.flight = { s.flight with
        parts := s.flight.parts.filter (· ≠ .thermal u)
        handed := s.flight.handed ++
          [{ slot := u, ieff := (s.slots.get u).cur.ieff, rise := y.rise, exposure := y.exposure }] } ∧
      (y.exposure = 4294967295 → y.satReported = true) ∧ (y.exposure ≠ 4294967295 → y.satReported = false) ∧
      (y.exposure = 4294967295 → x.satReported = false →
        t.notices = s.notices.arrive { epoch := s.cond.epochNumber, body := .exposureSaturated u }) ∧
      (x.satReported = true ∨ y.exposure ≠ 4294967295 → t.notices = s.notices)

/-- R71, R73, R75, R76, R77, R78, R79: the demand of a monitor is the highest level that qualifies; the grading of a
slot, from the values that its thermal step handed over. -/
def Obligations.GradingOfASlot : Prop :=
  (∀ (th : Thresholds) (h value : Nat) (prev : Level),
    let used := fun n : Level => if n = 3 then th.l3 else if n = 2 then th.l2 else if n = 1 then th.l1 else 0
    let meets := fun n : Level => used n ≠ 0 ∧ (used n ≤ value ∨ (n ≤ prev ∧ used n - h ≤ value))
    (demand th h value prev ≠ 0 → meets (demand th h value prev)) ∧ ∀ n, demand th h value prev < n → ¬ meets n) ∧
  ∀ (s : State) (u : Fin 8) (h : Handed) (hrdy : Bool), s.awaits (.grade u) →
    (s.store.applied.transformers.get u).defined = true → s.flight.handedTo u = some h →
    ∃ t, exec (.epochCompletion [.grade u] false hrdy) s = .next t ∧
      t = { s with slots := t.slots, notices := t.notices, flight := t.flight } ∧
      t.slots = s.slots.set u { s.slots.get u with grade := (t.slots.get u).grade } ∧
      t.flight.steps = s.flight.steps ∧ t.flight.handed = s.flight.handed.filter (fun x => x.slot ≠ u) ∧
      s.notices.queue <+: t.notices.queue ∧
      let m := s.store.applied.monitors.get u
      let g := (s.slots.get u).grade
      let y := t.slots.get u
      let dem := y.grade.demanded
      let low := if g.up = 0 then dem else min g.upMin dem
      let high := if g.down = 0 then dem else max g.downMax dem
      y.grade.prevC = demand m.c m.hC h.ieff.natAbs g.prevC ∧
      y.grade.prevR = demand m.r m.hR h.rise g.prevR ∧
      y.grade.prevE = demand m.e 0 h.exposure g.prevE ∧
      (g.level < dem → g.up + 1 = m.pUp → y.grade.level = low ∧ y.grade.up = 0 ∧ y.grade.upMin = 0) ∧
      (g.level < dem → g.up + 1 ≠ m.pUp → y.grade.level = g.level ∧ y.grade.up = g.up + 1 ∧ y.grade.upMin = low) ∧
      (g.level < dem → y.grade.down = 0 ∧ y.grade.downMax = 0) ∧
      (dem < g.level → g.down + 1 = m.pDown → y.grade.level = high ∧ y.grade.down = 0 ∧ y.grade.downMax = 0) ∧
      (dem < g.level → g.down + 1 ≠ m.pDown →
        y.grade.level = g.level ∧ y.grade.down = g.down + 1 ∧ y.grade.downMax = high) ∧
      (dem < g.level → y.grade.up = 0 ∧ y.grade.upMin = 0) ∧
      (dem = g.level → y.grade.level = g.level ∧ y.grade.up = 0 ∧ y.grade.upMin = 0 ∧ y.grade.down = 0 ∧
        y.grade.downMax = 0)

/-- R81, R82, R83, R85, R86, R92, R93, R94, R102, R103, R172: what a level change at a slot's grading tells the host, and
hands to the Annunciator and toward Capture Memory, and that without one nothing of this moves; and what the Annunciator's
taking of the change does to the slot's annunciation and the horn pattern's position. Between the two the level has moved
and the annunciation has not, and the Annunciator has the level before the change (notes/assumptions/22.md). -/
def Obligations.LevelChangeOfASlot : Prop :=
  (∀ (s : State) (u : Fin 8) (hrdy : Bool), s.awaits (.grade u) → s.flight.handedTo u ≠ none →
    (s.store.applied.transformers.get u).defined = true →
    ∃ t, exec (.epochCompletion [.grade u] false hrdy) s = .next t ∧
      let trig := s.store.applied.general.captureLevel
      let old := (s.slots.get u).grade.level
      let g := (t.slots.get u).grade
      let new := g.level
      let named := fun d : Level => if old < new then decide (new ≤ d) else decide (1 ≤ new) && decide (d = new)
      (t.slots.get u).signal = (s.slots.get u).signal ∧ t.ann = s.ann ∧
      (new = old → t.flight.changes = s.flight.changes ∧ t.notices = s.notices) ∧
      (new ≠ old → t.flight.changes = s.flight.changes ++ [{ slot := u, old := old, new := new }] ∧
        t.notices = s.notices.arrive
          { epoch := s.cond.epochNumber
            body := .levelChanged u old new (named g.prevC) (named g.prevR) (named g.prevE) }) ∧
      (s.flight.changeOf u = none → t.heardLevel u = old) ∧
      (old < new → trig ≠ 0 → trig ≤ new → t.flight.levels = s.flight.levels ++
        [{ cause := .level u, epoch := s.cond.epochNumber - 1
           cycle := if .start ∈ s.flight.parts then s.scanner.cycleNumber else s.scanner.cycleNumber - 1 }]) ∧
      (new ≤ old ∨ trig = 0 ∨ new < trig → t.flight.levels = s.flight.levels)) ∧
  ∀ (s : State) (u : Fin 8) (hrdy : Bool), s.awaits (.annunciate u) → (s.store.applied.transformers.get u).defined = true →
    ∃ t, exec (.epochCompletion [.annunciate u] false hrdy) s = .next t ∧
      t = { s with slots := t.slots, ann := t.ann, flight := { s.flight with
        parts := s.flight.parts.filter (· ≠ .annunciate u)
        changes := s.flight.changes.filter (fun h => h.slot ≠ u) } } ∧
      t.slots = s.slots.set u { s.slots.get u with signal := (t.slots.get u).signal } ∧
      t.ann = { s.ann with silenced := t.ann.silenced, hornPos := t.ann.hornPos, tone := t.ann.tone
                           hornReset := t.ann.hornReset } ∧
      t.heardLevel u = (s.slots.get u).grade.level ∧
      let x := (s.slots.get u).signal
      let y := (t.slots.get u).signal
      let A := s.store.applied.general.annunciateAt
      (s.flight.changeOf u = none → t.slots = s.slots ∧ t.ann = s.ann) ∧
      ∀ old new, s.flight.changeOf u = some { slot := u, old := old, new := new } →
        s.positionFollows t ∧ t.toneSound ∧
        ((x.state = .quiet ∨ x.state = .ringback) → A ≤ new →
          y = { state := .flashing, flash := new, acked := 0 } ∧ t.ann.silenced = false) ∧
        ((x.state = .quiet ∨ x.state = .ringback) → new < A → y = x ∧ t.ann.silenced = s.ann.silenced) ∧
        (x.state = .flashing → old < new → x.flash < new → y = { x with flash := new } ∧ t.ann.silenced = false) ∧
        (x.state = .flashing → new ≤ old ∨ new ≤ x.flash → y = x ∧ t.ann.silenced = s.ann.silenced) ∧
        (x.state = .steady → new < A → y = { x with state := .ringback } ∧ t.ann.silenced = s.ann.silenced) ∧
        (x.state = .steady → A ≤ new → x.acked < new →
          y = { state := .flashing, flash := new, acked := 0 } ∧ t.ann.silenced = false) ∧
        (x.state = .steady → A ≤ new → new ≤ x.acked → y = x ∧ t.ann.silenced = s.ann.silenced)

/-- R120, R121, R122, R126, R160: a LEVEL trigger by the capture state that it finds; and R87: of several the one of the
lowest slot is taken, whatever order the gradings handed them on in, and the next is the one reported as missed. -/
def Obligations.LevelTriggerByCaptureState : Prop :=
  (∀ (s : State) (u : Fin 8) (cyc ep : Count32) (hrdy : Bool), s.awaits .levels →
    s.flight.levels = [{ cause := .level u, cycle := cyc, epoch := ep }] →
    let tr : Trigger := { cause := .level u, cycle := cyc, epoch := ep }
    let depth := s.store.applied.general.preDepth
    let kept := min s.capture.ring.length depth
    let taken := { s.capture with
      depth := depth, preKept := kept, ring := s.capture.ring.drop (s.capture.ring.length - kept)
      post := 48 - depth, record := some tr, state := .triggered }
    let rest := { s.flight with parts := s.flight.parts.filter (· ≠ .levels), levels := [] }
    let out := exec (.epochCompletion [.levels] false hrdy) s
    (s.capture.state = .armed → s.capture.holdPending = false →
      out = .next { s with capture := taken, flight := rest }) ∧
    (s.capture.state = .armed → s.capture.holdPending = true → ∀ r, s.link.service = some r →
      out = .next (({ s with capture := { taken with holdPending := false }, flight := rest }).replied
        r.kind r.tag r.payload .answered .busy [] hrdy)) ∧
    (s.capture.state = .held → out = .next { s with
      capture := taken, flight := rest
      notices := s.notices.arrive { epoch := s.cond.epochNumber, body := .holdRevoked (.level u) } }) ∧
    (s.capture.state = .triggered ∨ s.capture.state = .frozen → out = .next { s with
      capture := { s.capture with missed := min 255 (s.capture.missed + 1), missReported := true }, flight := rest
      notices := if s.capture.missReported then s.notices
        else s.notices.arrive { epoch := s.cond.epochNumber, body := .captureMissed (.level u) } })) ∧
  (∀ (s : State) (first : Trigger) (u : Fin 8) (hrdy : Bool), s.awaits .levels → s.capture.missed ≤ 255 →
    s.capture.state = .armed ∨ s.capture.state = .held → first ∈ s.flight.levels → first.cause = .level u →
    (∀ tr ∈ s.flight.levels, tr = first ∨ ∃ v, u < v ∧ tr.cause = .level v) →
    ∃ t, exec (.epochCompletion [.levels] false hrdy) s = .next t ∧ t.flight.levels = [] ∧
      t.capture.state = .triggered ∧ t.capture.record = some first ∧
      t.capture.missed = min 255 (s.capture.missed + (s.flight.levels.length - 1))) ∧
  ∀ (s : State) (a b : Trigger) (u v : Fin 8) (hrdy : Bool), s.awaits .levels → s.capture.missed ≤ 255 →
    s.capture.state = .armed → s.capture.holdPending = false → s.capture.missReported = false →
    s.flight.levels = [a, b] ∨ s.flight.levels = [b, a] → a.cause = .level u → b.cause = .level v → u < v →
    ∃ t, exec (.epochCompletion [.levels] false hrdy) s = .next t ∧ t.capture.record = some a ∧
      t.notices = s.notices.arrive { epoch := s.cond.epochNumber, body := .captureMissed (.level v) }

/-- R145, R32, R50, R51, R52, R53, R112: the apply of a sealed set, its effects on every channel and slot and on the
annunciator's positions, and an epoch completion that finds the pending state OPEN. -/
def Obligations.SealedSetIsApplied : Prop :=
  ∀ (s : State) (hrdy : Bool), s.awaits .settings →
    ∃ t, exec (.epochCompletion [.settings] false hrdy) s = .next t ∧
      (s.store.isSealed = false → t = { s with flight := t.flight } ∧ .settings ∉ t.flight.parts) ∧
      (s.store.isSealed = true →
        let old := s.store.applied
        let new := s.store.pending
        t.store = { applied := new, pending := new, isSealed := false } ∧
        t.notices = s.notices.arrive { epoch := s.cond.epochNumber, body := .settingsApplied } ∧
        t = { s with cond := t.cond, slots := t.slots, ann := t.ann, store := t.store, notices := t.notices,
                     flight := t.flight } ∧
        t.cond = { s.cond with channels := t.cond.channels } ∧
        t.ann = { s.ann with
          silenced := t.ann.silenced, hornPos := t.ann.hornPos, fastPos := t.ann.fastPos, slowPos := t.ann.slowPos
          tone := t.ann.tone, hornReset := t.ann.hornReset, lampReset := t.ann.lampReset } ∧ t.toneSound ∧
        (old.general.annunciateAt = new.general.annunciateAt → t.ann.silenced = s.ann.silenced) ∧
        (old.annunciator ≠ new.annunciator → t.ann.hornPos = 0 ∧ t.ann.fastPos = 0 ∧ t.ann.slowPos = 0) ∧
        (old.annunciator = new.annunciator →
          t.ann.fastPos = s.ann.fastPos ∧ t.ann.slowPos = s.ann.slowPos ∧
          (old.general.annunciateAt = new.general.annunciateAt → s.positionFollows t)) ∧
        (∀ i, let r := s.cond.channels.get i
          let q := t.cond.channels.get i
          ((old.channels.get i).enabled = false → (new.channels.get i).enabled = true →
            q = { state := .ok, stuckRun := 0, cleanRun := 0, lastCq := 32768, sum := 0, count := 0, clipSeen := false,
                  degradedSeen := false, lastValid := none
                  result := { mq := 32768, current := 0, k := 0, held := true, clipped := false, degraded := false,
                              neverValid := true } }) ∧
          ((old.channels.get i).enabled = true → (new.channels.get i).enabled = false →
            q = { state := .disabled, stuckRun := 0, cleanRun := 0, lastCq := 32768, sum := 0, count := 0
                  clipSeen := false, degradedSeen := false, lastValid := none
                  result := { mq := 32768, current := 0, k := 0, held := true, clipped := false, degraded := false,
                              neverValid := true } }) ∧
          ((old.channels.get i).enabled = (new.channels.get i).enabled → q = r)) ∧
        ∀ u, let x := s.slots.get u
          let y := t.slots.get u
          let was := (old.transformers.get u).defined
          let is := (new.transformers.get u).defined
          let same := old.transformers.get u = new.transformers.get u ∧ old.curves.get u = new.curves.get u ∧
            old.monitors.get u = new.monitors.get u
          (was ≠ is →
            y.cur = { ieff := 0, held := false, clipped := false, degraded := false } ∧
            y.thermal = { target := 0, rise := 0, exposure := 0, satReported := false } ∧
            y.grade = { level := 0, prevC := 0, prevR := 0, prevE := 0, up := 0, upMin := 0, down := 0,
                        downMax := 0 }) ∧
          (was ≠ is → 1 ≤ new.general.annunciateAt → y.signal = { state := .quiet, flash := 0, acked := 0 }) ∧
          (was = true → is = true → ¬ same → y.cur = x.cur ∧ y.thermal = x.thermal ∧
            y.grade = { level := x.grade.level, prevC := 0, prevR := 0, prevE := 0, up := 0, upMin := 0, down := 0,
                        downMax := 0 }) ∧
          (was = true → is = true → same → y.cur = x.cur ∧ y.thermal = x.thermal ∧ y.grade = x.grade) ∧
          (was = false → is = false → y = x) ∧
          (was = true → is = true → old.general.annunciateAt = new.general.annunciateAt → y.signal = x.signal))

/-- R95, R103: an apply that changes the annunciate-at level re-evaluates every slot that stays defined, and the horn
pattern's position follows. -/
def Obligations.NewAnnunciateAtLevelIsReevaluated : Prop :=
  ∀ (s : State) (hrdy : Bool), s.awaits .settings → s.store.isSealed = true →
    s.store.applied.general.annunciateAt ≠ s.store.pending.general.annunciateAt →
    ∃ t, exec (.epochCompletion [.settings] false hrdy) s = .next t ∧
      let A := s.store.pending.general.annunciateAt
      (t.ann.silenced = s.ann.silenced ∨
        t.ann.silenced = false ∧ ∃ u, (t.slots.get u).signal.state = .flashing) ∧
      (t.hornKey ≠ none → t.hornKey ≠ s.hornKey → t.ann.hornPos = 0) ∧
      (s.store.applied.annunciator = s.store.pending.annunciator →
        (t.ann.hornPos = 0 ∨ t.ann.hornPos = s.ann.hornPos) ∧
        ((∀ u, (s.store.applied.transformers.get u).defined = (s.store.pending.transformers.get u).defined) →
          s.positionFollows t)) ∧
      ∀ u, (s.store.applied.transformers.get u).defined = true → (s.store.pending.transformers.get u).defined = true →
        let n := (s.slots.get u).grade.level
        let x := (s.slots.get u).signal
        let y := (t.slots.get u).signal
        ((x.state = .quiet ∨ x.state = .ringback) → A ≤ n →
          y = { state := .flashing, flash := n, acked := 0 } ∧ t.ann.silenced = false) ∧
        (x.state = .steady → n < A → y = { x with state := .ringback }) ∧
        ((x.state = .quiet ∨ x.state = .ringback) → n < A → y = x) ∧
        (x.state = .steady → A ≤ n → y = x) ∧ (x.state = .flashing → y = x)

/-! ## The beat, the horn and the lines -/

/-- R100, R101, R103, R106, R108: a beat at which no press is taken. -/
def Obligations.BeatWithoutAPress : Prop :=
  ∀ (s : State) (ackb : Bool), s.time.phase = .running → s.ann.beatTicks = 125000 →
    (s.ann.debounce ≠ .seen ∨ ackb = false) →
    ∃ t, exec (.beatExpiry ackb) s = .next t ∧ t.toneSound ∧
      t = { s with ann := { s.ann with
        debounce := if ackb then (if s.ann.debounce = .taken then .taken else .seen) else .idle
        chirp := s.ann.chirp - 1
        hornPos := if s.ann.chirp = 1 then 0
          else match s.hornKey with
            | some n => if s.ann.chirp = 0 ∧ s.ann.hornReset = false then
                (s.ann.hornPos + 1) % (s.store.applied.annunciator.hornPattern n).width else s.ann.hornPos
            | none => s.ann.hornPos
        fastPos := if s.ann.lampReset then s.ann.fastPos
          else (s.ann.fastPos + 1) % s.store.applied.annunciator.fast.width
        slowPos := if s.ann.lampReset then s.ann.slowPos
          else (s.ann.slowPos + 1) % s.store.applied.annunciator.slow.width
        beatTicks := 0
        tone := t.ann.tone } }

/-- R96, R98, R100, R103, R106, R108: ACKB asserted at a second sample acknowledges every defined slot at its live level,
with source BUTTON; and the positions after that beat. While a level change waits for the Annunciator the live level is the
one before it (R99; notes/assumptions/22.md). -/
def Obligations.SecondSampleAcknowledgesAll : Prop :=
  ∀ s : State, s.time.phase = .running → s.ann.beatTicks = 125000 → s.ann.debounce = .seen →
    ∃ t, exec (.beatExpiry true) s = .next t ∧ t.ann.debounce = .taken ∧ t.ann.beatTicks = 0 ∧
      t.ann.silenced = s.ann.silenced ∧ t.toneSound ∧
      t = { s with slots := t.slots, ann := t.ann, notices := t.notices } ∧
      (∀ u, let x := s.slots.get u
        let y := t.slots.get u
        y.cur = x.cur ∧ y.thermal = x.thermal ∧ y.grade = x.grade ∧
        ((s.store.applied.transformers.get u).defined = false → y = x) ∧
        (x.signal.state = .quiet ∨ x.signal.state = .steady → y = x) ∧
        ((s.store.applied.transformers.get u).defined = true → x.signal.state = .flashing →
          s.store.applied.general.annunciateAt ≤ s.heardLevel u →
          y.signal = { state := .steady, flash := 0, acked := s.heardLevel u }) ∧
        ((s.store.applied.transformers.get u).defined = true → x.signal.state = .flashing →
          s.heardLevel u < s.store.applied.general.annunciateAt →
          y.signal = { state := .quiet, flash := 0, acked := 0 }) ∧
        ((s.store.applied.transformers.get u).defined = true → x.signal.state = .ringback →
          y.signal = { x.signal with state := .quiet, acked := 0 })) ∧
      let hit := fun u => (s.store.applied.transformers.get u).defined &&
        (decide ((s.slots.get u).signal.state = .flashing) || decide ((s.slots.get u).signal.state = .ringback))
      ((∃ u, hit u = true) →
        t.notices = s.notices.arrive { epoch := s.cond.epochNumber, body := .acknowledged .button (.ofFn hit) } ∧
        (s.store.applied.annunciator.chirpEnable = true → t.ann.chirp = 2) ∧
        (s.store.applied.annunciator.chirpEnable = false → t.ann.chirp = s.ann.chirp - 1)) ∧
      ((∀ u, hit u = false) → t.notices = s.notices ∧ t.ann.chirp = s.ann.chirp - 1) ∧
      (t.ann.chirp = 0 → s.ann.chirp = 1 → t.ann.hornPos = 0) ∧
      (t.ann.chirp ≠ 0 ∨ s.ann.chirp ≠ 1 →
        (t.hornKey = none → t.ann.hornPos = s.ann.hornPos) ∧
        (t.hornKey ≠ none → t.hornKey ≠ s.hornKey → t.ann.hornPos = 0) ∧
        ∀ n, t.hornKey = some n → s.hornKey = some n → t.ann.hornPos =
          if s.ann.chirp = 0 ∧ s.ann.hornReset = false then
            (s.ann.hornPos + 1) % (s.store.applied.annunciator.hornPattern n).width else s.ann.hornPos) ∧
      t.ann.fastPos = (if s.ann.lampReset then s.ann.fastPos
        else (s.ann.fastPos + 1) % s.store.applied.annunciator.fast.width) ∧
      t.ann.slowPos = (if s.ann.lampReset then s.ann.slowPos
        else (s.ann.slowPos + 1) % s.store.applied.annunciator.slow.width)

/-- R102, R103, R104: the horn request, the level whose pattern is in use and that pattern, what the line carries, when it
is high, and SILENCE. -/
def Obligations.HornRequestLineAndSilence : Prop :=
  (∀ s : State,
    (s.hornRequest = true ↔ s.ann.silenced = false ∧ ∃ u, (s.slots.get u).signal.state = .flashing) ∧
    ∀ n, s.hornKey = some n →
      (∃ u, (s.slots.get u).signal.state = .flashing ∧ (s.slots.get u).signal.flash = n) ∧
      ∀ u, (s.slots.get u).signal.state = .flashing → (s.slots.get u).signal.flash ≤ n) ∧
  (∀ i : AnnunciatorItem, i.hornPattern 1 = i.horn1 ∧ i.hornPattern 2 = i.horn2 ∧ i.hornPattern 3 = i.horn3) ∧
  (∀ s : State, s.toneSound →
    (0 < s.ann.chirp → ∃ x, s.ann.tone = some x ∧ x.source = .chirp) ∧
    (s.ann.chirp = 0 → s.hornKey = none → s.ann.tone = none) ∧
    (s.ann.chirp = 0 → ∀ n, s.hornKey = some n →
      let step := (s.store.applied.annunciator.hornPattern n).steps.getLsbD s.ann.hornPos
      (step = true → ∃ x, s.ann.tone = some x ∧ x.source = .horn) ∧ (step = false → s.ann.tone = none))) ∧
  (∀ s : State, (s.hornLine = true ↔ s.time.phase = .running ∧ ∃ x, s.ann.tone = some x ∧ x.high = true) ∧
    (s.toneSound → s.hornLine = true →
      0 < s.ann.chirp ∨ (s.ann.silenced = false ∧ ∃ u, (s.slots.get u).signal.state = .flashing))) ∧
  ∀ (s : State) (tag : Byte) (hrdy : Bool), s.canServe →
    (s.hornRequest = false → exec (.silence tag [] hrdy) s = .next (s.answered .silence tag [] .done [] hrdy)) ∧
    (s.hornRequest = true → ∃ x : State, exec (.silence tag [] hrdy) s = .next (x.answered .silence tag [] .done [] hrdy) ∧
      x = { s with ann := { s.ann with silenced := true, tone := x.ann.tone } } ∧ x.hornRequest = false ∧ x.toneSound)

/-- R105: the edges of the tone, the divisor of each tone index, and the high time of every tone at every loudness. -/
def Obligations.TonePeriodAlternatesTheLine : Prop :=
  (∀ s : State, exec .tonePeriod s = .next { s with ann := { s.ann with tone := s.ann.tone.map fun t =>
      if t.high then { t with high := false }
      else
        let index := if t.source = .chirp then s.store.applied.annunciator.chirpTone
          else s.store.applied.annunciator.hornTone
        { source := t.source, divisor := toneDivisor index, high := true
          highTime := highTime (toneDivisor index) s.store.applied.annunciator.loudness } } }) ∧
  (List.range 8).map toneDivisor = [12, 15, 16, 20, 24, 30, 32, 40] ∧
  ∀ d ∈ [12, 15, 16, 20, 24, 30, 32, 40], ∀ l, 1 ≤ l → l ≤ 8 →
    roundedUp (d * (9 - l)) 16 (highTime d l) ∧ 1 ≤ highTime d l ∧ highTime d l < d

/-- R1, R108, R109, R110, R113, R150, R156, R160, R169: lamps, contacts and what makes each source true, ATTN, PRDY and TXD
as functions of the state. -/
def Obligations.LinesFollowTheState : Prop :=
  ∀ s : State,
    (s.time.phase = .starting →
      (∀ n, s.lamp n = false) ∧ (∀ k, s.contact k = false) ∧ s.hornLine = false ∧ s.prdy = false) ∧
    (∀ n, s.time.phase = .running →
      let item := s.store.applied.annunciator
      ((s.slots.get n).signal.state = .quiet → s.lamp n = false) ∧
      ((s.slots.get n).signal.state = .steady → s.lamp n = true) ∧
      ((s.slots.get n).signal.state = .flashing → s.lamp n = item.fast.steps.getLsbD s.ann.fastPos) ∧
      ((s.slots.get n).signal.state = .ringback → s.lamp n = item.slow.steps.getLsbD s.ann.slowPos)) ∧
    (∀ k, s.time.phase = .running → (s.contact k = true ↔ (s.store.applied.contacts.get k).enabled = true ∧
      (s.sourceTrue (s.store.applied.contacts.get k).source = true ↔
        (s.store.applied.contacts.get k).sense = .energizeWhenTrue))) ∧
    s.sourceTrue .none = false ∧
    (∀ u n, s.sourceTrue (.level u n) = true ↔ n ≤ (s.slots.get u).grade.level) ∧
    (∀ n, s.sourceTrue (.anyLevel n) = true ↔
      ∃ u, (s.store.applied.transformers.get u).defined = true ∧ n ≤ (s.slots.get u).grade.level) ∧
    (s.sourceTrue .unacknowledged = true ↔
      ∃ u, (s.slots.get u).signal.state = .flashing ∨ (s.slots.get u).signal.state = .ringback) ∧
    (s.sourceTrue .horn = true ↔ s.ann.silenced = false ∧ ∃ u, (s.slots.get u).signal.state = .flashing) ∧
    (s.sourceTrue .healthy = true ↔ s.tracker.state = .locked ∧ s.cond.verdict ≠ .fail ∧
      ∀ c, (s.store.applied.channels.get c).enabled = true → (s.cond.channels.get c).state ≠ .fault) ∧
    (s.sourceTrue .captureReady = true ↔ s.capture.state = .frozen) ∧
    (s.attn = true ↔ s.store.applied.general.attention = true ∧ s.notices.queue ≠ []) ∧
    (s.prdy = true ↔ s.time.phase = .running ∧ s.link.service = none) ∧
    (s.link.tx = .idle ∨ (∃ r, s.link.tx = .waitHrdy r) → s.txd = true) ∧
    ∀ bytes b j i, s.link.tx = .sending bytes → bytes[j]? = some b → i < 10 →
      (10 * j + i) * 1000000 ≤ s.link.txTicks * bitRate s.time.rate →
      s.link.txTicks * bitRate s.time.rate < (10 * j + i + 1) * 1000000 →
      (i = 0 → s.txd = false) ∧ (∀ n, i = n + 1 → n < 8 → s.txd = b.getLsbD n) ∧ (i = 9 → s.txd = true)

/-! ## The link -/

/-- R153: the worked value of the check, and that the register ends at 0 over covered bytes followed by their check. -/
def Obligations.CheckRegisterEndsAtZero : Prop :=
  crc [0x31, 0x32, 0x33, 0x34, 0x35, 0x36, 0x37, 0x38, 0x39] = 0x29B1 ∧
    ∀ bs : List Byte, crcFrom 0xFFFF (bs ++ [BitVec.ofNat 8 ((crc bs).toNat / 256), BitVec.ofNat 8 (crc bs).toNat]) = 0

/-- R151, R154, R156: a whole request frame, taken byte by byte from HUNTING, puts its request in service. -/
def Obligations.RequestFrameEntersService : Prop :=
  ∀ (s : State) (kind tag : Byte) (payload : List Byte), s.canServe → s.link.receiver = .hunting →
    payload.length ≤ 120 →
    (requestFrame kind tag payload).foldl
        (fun o b => match o with
          | .next x => exec (.byteTaken b true false) x
          | .fault f => .fault f
          | .refused r => .refused r) (Host.Outcome.next s) =
      .next { s with link := { s.link with
        receiver := .hunting, byteTicks := 0
        service := some { kind := kind, tag := tag, payload := payload, stage := .entered } } }

/-- R1, R154, R155: the bytes and frames that the receiver ignores or discards, with no effect outside it; a byte whose
start fell in STARTING has none at all. -/
def Obligations.DiscardedBytesLeaveNoTrace : Prop :=
  ∀ (s : State) (b : Byte) (taken : List Byte), s.time.phase = .running →
    let hunting := Host.Outcome.next (φ := Fault) (ρ := Refusal)
      { s with link := { s.link with receiver := .hunting, byteTicks := 0 } }
    (∀ stop, exec (.byteTaken b stop true) s = .next s) ∧
    (∀ stop, s.link.receiver = .hunting → b ≠ 0xC3 ∨ stop = false → exec (.byteTaken b stop false) s = hunting) ∧
    (s.link.receiver = .receiving taken → exec (.byteTaken b false false) s = hunting) ∧
    (s.link.receiver = .receiving [] → 120 < b.toNat → exec (.byteTaken b true false) s = hunting) ∧
    (∀ len rest h, s.link.receiver = .receiving (len :: rest ++ [h]) → rest.length = len.toNat + 2 →
      h.toNat * 256 + b.toNat ≠ (crc (len :: rest)).toNat → exec (.byteTaken b true false) s = hunting) ∧
    (s.link.receiver = .receiving taken → s.link.byteTicks = 20000 → exec .interByteExpiry s = hunting)

/-- R156, R157, R158: a request that stands in service, received and not yet dispatched, is dispatched by its own row as if
it came then (notes/assumptions/6.md); a frame that arrives while a request is in service is dropped, whatever its kind and
whether it comes byte by byte or as another row, and sets the mark; an unknown KIND is refused REFUSED-KIND, and a known
one with another LENGTH REFUSED-LENGTH. -/
def Obligations.FramesDroppedOrRefused : Prop :=
  (∀ (s : State) (r : Service), s.time.phase = .running → s.link.service = some r →
    let marked := Host.Outcome.next (φ := Fault) (ρ := Refusal) { s with link := { s.link with dropped := true } }
    let unoccupied := { s with link := { s.link with service := none } }
    exec .frameDropped s = marked ∧
    (∀ (k : RequestKind) tag payload hrdy,
      (r = { kind := k.code, tag := tag, payload := payload, stage := .entered } →
        exec (k.command tag payload hrdy) s = exec (k.command tag payload hrdy) unoccupied) ∧
      (r ≠ { kind := k.code, tag := tag, payload := payload, stage := .entered } →
        exec (k.command tag payload hrdy) s = marked)) ∧
    ∀ kind tag payload hrdy, (∀ k : RequestKind, k.code ≠ kind) →
      (r = { kind := kind, tag := tag, payload := payload, stage := .entered } →
        exec (.requestUnknownKind kind tag payload hrdy) s =
          exec (.requestUnknownKind kind tag payload hrdy) unoccupied) ∧
      (r ≠ { kind := kind, tag := tag, payload := payload, stage := .entered } →
        exec (.requestUnknownKind kind tag payload hrdy) s = marked)) ∧
  (∀ (s : State) (r : Service) (kind tag : Byte) (payload : List Byte), s.time.phase = .running →
    s.link.service = some r → s.link.receiver = .hunting → payload.length ≤ 120 →
    (requestFrame kind tag payload).foldl
        (fun o b => match o with
          | .next x => exec (.byteTaken b true false) x
          | .fault f => .fault f
          | .refused r => .refused r) (Host.Outcome.next s) =
      .next { s with link := { s.link with receiver := .hunting, byteTicks := 0, dropped := true } }) ∧
  ∀ s : State, s.canServe →
    (∀ kind tag payload hrdy, (∀ k : RequestKind, k.code ≠ kind) →
      exec (.requestUnknownKind kind tag payload hrdy) s =
        .next (s.replied kind tag payload .answered .refusedKind [] hrdy)) ∧
    ∀ (k : RequestKind) tag payload hrdy, payload.length ≠ k.length →
      exec (k.command tag payload hrdy) s = .next (s.answered k tag payload .refusedLength [] hrdy)

/-- R132, R149, R150, R156, R160, R161, R162, R168: HRDY starts a waiting reply, with the flags of that moment, and has
no effect otherwise; the end of a reply ends the service of its request; that of a RESTART also empties the queue,
reverts the pending copy, re-arms Capture Memory and discards a part-received frame. -/
def Obligations.ReplyStartsAndEndsTheService : Prop :=
  (∀ s : State,
    (∀ kind tag status body, s.link.tx = .waitHrdy { kind := kind ||| 0x80, tag := tag, status := status, body := body } →
      exec .hrdyAsserted s = .next { s with link := { s.link with
        tx := .sending (replyBytes s kind tag status body), txTicks := 0, dropped := false } }) ∧
    ((∀ r, s.link.tx ≠ .waitHrdy r) → exec .hrdyAsserted s = .next s)) ∧
  ∀ (s : State) (r : Service) (bytes : List Byte), s.time.phase = .running → s.link.service = some r →
    s.link.tx = .sending bytes → bytes.length * 10 * 1000000 ≤ s.link.txTicks * bitRate s.time.rate →
    (r.stage ≠ .restarting → exec .replySent s =
      .next { s with link := { s.link with tx := .idle, txTicks := 0, service := none } }) ∧
    (r.stage = .restarting → exec .replySent s = .next { s with
      link := { s.link with tx := .idle, txTicks := 0, service := none, receiver := .hunting, byteTicks := 0 }
      notices := { queue := [], lost := false }
      store := { s.store with pending := s.store.applied, isSealed := false }
      capture := { state := .armed, ring := [], depth := 0, preKept := 0, post := 0, record := none, missed := 0
                   missReported := false, holdPending := false
                   current := s.capture.current.map fun f => { f with kept := false } } })

/-! ## Requests -/

/-- R20, R38, R129, R170, R171, R173, R175, sections 11.2 and 11.4: the requests that only read are answered DONE with their
body, and each body field by field, as the tables of section 11.4 set it out. -/
def Obligations.ReadsAreAnsweredAndChangeNothing : Prop :=
  ([TrackerState.searching, .locked, .holdover, .free].map (·.code) = [0, 1, 2, 3] ∧
    [ChannelState.disabled, .ok, .fault].map (·.code) = [0, 1, 2] ∧
    [SignalState.quiet, .flashing, .steady, .ringback].map (·.code) = [0, 1, 2, 3] ∧
    [SelfCheckState.none, .scheduled, .running, .pass, .fail].map (·.code) = [0, 1, 2, 3, 4] ∧
    [Verdict.none, .pass, .fail].map (·.code) = [0, 1, 2] ∧
    [CaptureState.armed, .held, .triggered, .frozen].map (·.code) = [0, 1, 2, 3] ∧
    [Phase.starting, .running].map (·.code) = [0, 1] ∧
    (∀ u c, [Cause.level u, .step c, .request].map (·.code) = [1, 2, 3])) ∧
  (∀ s : State, let b := statusBody s
    laidOut b 41 ([(0, 1, 0x4E), (1, 1, 1), (2, 1, s.time.rate.toNat), (3, 1, yesBit (s.time.fnom == .hz60)),
        (4, 1, s.time.phase.code.toNat), (5, 1, s.tracker.state.code.toNat), (6, 4, s.scanner.cycleNumber.toNat),
        (10, 4, s.cond.epochNumber.toNat)]
      ++ (List.finRange 8).map (fun u => (15 + u.val, 1, (s.slots.get u).grade.level.val))
      ++ (List.finRange 8).map (fun u => (23 + u.val, 1, (s.slots.get u).signal.state.code.toNat))
      ++ [(31, 1, yesBit s.hornRequest), (32, 1, yesBit s.ann.silenced), (33, 1, s.cond.selfCheck.code.toNat),
        (34, 1, s.cond.verdict.code.toNat), (37, 1, s.capture.state.code.toNat), (38, 1, yesBit s.store.isSealed),
        (39, 1, s.notices.queue.length), (40, 1, yesBit s.notices.lost)]) ∧
    (∀ u : Fin 8, (fieldAt b 14 1).testBit u.val = (s.store.applied.transformers.get u).defined) ∧
    ∀ i : Fin 16, (fieldAt b 35 2).testBit i.val = ((s.store.applied.channels.get i).enabled &&
      decide ((s.cond.channels.get i).state = .fault))) ∧
  (∀ (s : State) (c : Cycle), s.scanner.cycle = some c →
    laidOut (trackerBody s) 15 [(0, 1, s.tracker.state.code.toNat), (1, 2, s.tracker.pGood.getD 0), (3, 2, c.ps),
      (5, 1, s.tracker.goodRun), (6, 1, s.tracker.hold), (7, 4, s.scanner.cycleNumber.toNat),
      (11, 4, s.cond.epochNumber.toNat)]) ∧
  (∀ (s : State) (i : Fin 16), let r := s.cond.channels.get i
    laidOut (channelReplyBody s i) 19 [(0, 1, i.val), (1, 1, r.state.code.toNat), (2, 1, r.stuckRun),
      (3, 1, r.cleanRun), (4, 2, r.lastCq), (6, 1, r.count), (7, 1, yesBit r.clipSeen + 2 * yesBit r.degradedSeen),
      (8, 1, s.cond.epochCycles), (9, 2, r.result.mq), (11, 2, twosComplement r.result.current), (13, 1, r.result.k),
      (14, 1, yesBit r.result.held + 2 * yesBit r.result.clipped + 4 * yesBit r.result.degraded
        + 8 * yesBit r.result.neverValid),
      (15, 2, match r.lastValid with | some v => v.1 | none => 0xFFFF),
      (17, 2, match r.lastValid with | some v => twosComplement v.2 | none => 0)]) ∧
  (∀ (s : State) (u : Fin 8), let x := s.slots.get u
    laidOut (transformerReplyBody s u) 22 [(0, 1, u.val), (1, 1, yesBit (s.store.applied.transformers.get u).defined),
      (2, 2, twosComplement x.cur.ieff),
      (4, 1, yesBit x.cur.held + 2 * yesBit x.cur.clipped + 4 * yesBit x.cur.degraded), (5, 2, x.thermal.target),
      (7, 2, x.thermal.rise), (9, 4, x.thermal.exposure), (13, 1, x.grade.level.val), (14, 1, x.grade.prevC.val),
      (15, 1, x.grade.prevR.val), (16, 1, x.grade.prevE.val), (17, 1, x.grade.up), (18, 1, x.grade.down),
      (19, 1, x.signal.state.code.toNat), (20, 1, x.signal.flash.val), (21, 1, x.signal.acked.val)]) ∧
  (∀ c : Capture,
    laidOut (captureInfoBody c) 15 [(0, 1, c.state.code.toNat), (1, 1, c.ring.length), (2, 1, c.preKept), (3, 1, c.post),
      (4, 1, match c.record with | some r => r.cause.code.toNat | none => 0),
      (5, 1, match c.record with
        | some r => (match r.cause with | .level u => u.val | .step i => i.val | .request => 0xFF)
        | none => 0xFF),
      (6, 4, match c.record with | some r => r.cycle.toNat | none => 0),
      (10, 4, match c.record with | some r => r.epoch.toNat | none => 0), (14, 1, c.missed)]) ∧
  ∀ (s : State) (tag : Byte) (hrdy : Bool), s.canServe →
    exec (.status tag [] hrdy) s = .next (s.answered .status tag [] .done (statusBody s) hrdy) ∧
    exec (.readTracker tag [] hrdy) s = .next (s.answered .readTracker tag [] .done (trackerBody s) hrdy) ∧
    exec (.captureInfo tag [] hrdy) s = .next (s.answered .captureInfo tag [] .done (captureInfoBody s.capture) hrdy) ∧
    (∀ i : Fin 16, exec (.readChannel tag [BitVec.ofNat 8 i.val] hrdy) s =
      .next (s.answered .readChannel tag [BitVec.ofNat 8 i.val] .done (channelReplyBody s i) hrdy)) ∧
    (∀ b : Byte, 16 ≤ b.toNat → exec (.readChannel tag [b] hrdy) s =
      .next (s.answered .readChannel tag [b] .refusedValue [0x03, 0, 1] hrdy)) ∧
    (∀ u : Fin 8, exec (.readTransformer tag [BitVec.ofNat 8 u.val] hrdy) s =
      .next (s.answered .readTransformer tag [BitVec.ofNat 8 u.val] .done (transformerReplyBody s u) hrdy)) ∧
    (∀ b : Byte, 8 ≤ b.toNat → exec (.readTransformer tag [b] hrdy) s =
      .next (s.answered .readTransformer tag [b] .refusedValue [0x04, 0, 1] hrdy))

/-- R142: READ SETTINGS returns the named item of the named copy, or refuses the first field that names nothing; that the
index is checked before the copy selector is the MODEL's choice (notes/assumptions/16.md). -/
def Obligations.ReadSettingsReturnsTheNamedItem : Prop :=
  ∀ (s : State) (tag : Byte) (hrdy : Bool) (kind index copy : Byte), s.canServe →
    let c := if copy = 0 then s.store.pending else s.store.applied
    let n := index.toNat
    let done := fun body => Host.Outcome.next (φ := Fault) (ρ := Refusal)
      (s.answered .readSettings tag [kind, index, copy] .done body hrdy)
    let refused := fun field => Host.Outcome.next (φ := Fault) (ρ := Refusal)
      (s.answered .readSettings tag [kind, index, copy] .refusedValue [0x17, 0, field] hrdy)
    let out := exec (.readSettings tag [kind, index, copy] hrdy) s
    (kind.toNat < 0x10 ∨ 0x16 < kind.toNat → out = refused 1) ∧
    (kind = 0x10 ∨ kind = 0x16 → n ≠ 0 → out = refused 2) ∧
    (kind = 0x11 → 16 ≤ n → out = refused 2) ∧
    (kind = 0x12 ∨ kind = 0x13 ∨ kind = 0x14 → 8 ≤ n → out = refused 2) ∧ (kind = 0x15 → 6 ≤ n → out = refused 2) ∧
    (2 ≤ copy.toNat → (kind = 0x10 ∨ kind = 0x16) ∧ n = 0 ∨ kind = 0x11 ∧ n < 16 ∨
      (kind = 0x12 ∨ kind = 0x13 ∨ kind = 0x14) ∧ n < 8 ∨ kind = 0x15 ∧ n < 6 → out = refused 3) ∧
    (copy.toNat < 2 →
      (kind = 0x10 → n = 0 → out = done (generalBody c.general)) ∧
      (kind = 0x16 → n = 0 → out = done (annunciatorBody c.annunciator)) ∧
      (∀ i : Fin 16, kind = 0x11 → n = i.val → out = done (channelBody i (c.channels.get i))) ∧
      (∀ u : Fin 8, kind = 0x12 → n = u.val → out = done (transformerBody u (c.transformers.get u))) ∧
      (∀ u : Fin 8, kind = 0x13 → n = u.val → out = done (curveBody u (c.curves.get u))) ∧
      (∀ u : Fin 8, kind = 0x14 → n = u.val → out = done (monitorsBody u (c.monitors.get u))) ∧
      (∀ k : Fin 6, kind = 0x15 → n = k.val → out = done (contactBody k (c.contacts.get k))))

/-- R128, R175: CAPTURE READ by capture state, frame index and channel, and its body field by field; the order of the two
checks is the MODEL's reading (notes/assumptions/16.md). -/
def Obligations.CaptureReadReturnsTheNamedFrame : Prop :=
  (∀ (f : Frame) (x : FrameChannel), laidOut (captureReadBody f x) (8 + 2 * x.codes.length)
    ([(0, 4, f.number.toNat), (4, 2, f.ps), (6, 1, yesBit f.degraded + 2 * yesBit x.clip), (7, 1, x.chan.val)]
      ++ x.codes.mapIdx (fun k code => (8 + 2 * k, 2, code.toNat)))) ∧
  ∀ (s : State) (tag index chan : Byte) (hrdy : Bool), s.canServe →
    let reply := fun status body => Host.Outcome.next (φ := Fault) (ρ := Refusal)
      (s.answered .captureRead tag [index, chan] status body hrdy)
    let out := exec (.captureRead tag [index, chan] hrdy) s
    (s.capture.state = .armed ∨ s.capture.state = .triggered → out = reply .refusedState []) ∧
    (s.capture.state = .held ∨ s.capture.state = .frozen →
      (s.capture.ring.length ≤ index.toNat → out = reply .refusedValue [0x33, 0, 1]) ∧
      ∀ f, s.capture.ring[index.toNat]? = some f →
        ((∀ x ∈ f.channels, x.chan.val ≠ chan.toNat) → out = reply .refusedValue [0x33, 0, 2]) ∧
        ∀ before x after, f.channels = before ++ x :: after → (∀ y ∈ before, y.chan.val ≠ chan.toNat) →
          x.chan.val = chan.toNat → out = reply .done (captureReadBody f x))

/-- R164, R166, R167, R175: FETCH NOTICE removes the oldest notices and returns them, and clears the lost mark with the
last; and the record of each of the thirteen kinds, field by field. -/
def Obligations.FetchNoticeRemovesTheOldest : Prop :=
  (∀ epoch : Count32,
    let record := fun (body : NoticeBody) (size code subject : Nat) (detail : List (Nat × Nat × Nat)) =>
      laidOut (Notice.bytes { epoch := epoch, body := body }) size
        ([(0, 1, code), (1, 4, epoch.toNat), (5, 1, subject)] ++ detail)
    let subject := fun x : Cause => match x with | .level u => u.val | .step i => i.val | .request => 0xFF
    let cause := fun x : Cause => [(6, 1, match x with | .level _ => 1 | .step _ => 2 | .request => 3), (7, 1, subject x)]
    (∀ (u : Fin 8) (old new : Level) (c r e : Bool), record (.levelChanged u old new c r e) 9 0x01 u.val
      [(6, 1, old.val), (7, 1, new.val), (8, 1, yesBit c + 2 * yesBit r + 4 * yesBit e)]) ∧
    (∀ source changed, record (.acknowledged source changed) 8 0x02 0xFF
        [(6, 1, match source with | .request => 0 | .button => 1)] ∧
      ∀ u : Fin 8, (fieldAt (Notice.bytes { epoch := epoch, body := .acknowledged source changed }) 7 1).testBit u.val =
        changed.get u) ∧
    (∀ i : Fin 16, record (.channelFault i) 6 0x03 i.val [] ∧ record (.channelRecovered i) 6 0x04 i.val []) ∧
    record .referenceLost 6 0x05 0xFF [] ∧ (∀ p, record (.referenceRestored p) 8 0x06 0xFF [(6, 2, p)]) ∧
    record .freeRunning 6 0x07 0xFF [] ∧
    (∀ pass refMean gndMean, record (.selfCheckResult pass refMean gndMean) 11 0x08 0xFF
      [(6, 1, if pass then 1 else 2), (7, 2, refMean), (9, 2, gndMean)]) ∧
    record .settingsApplied 6 0x09 0xFF [] ∧ (∀ u : Fin 8, record (.exposureSaturated u) 6 0x0A u.val []) ∧
    ∀ x, record (.captureFrozen x) 8 0x0B 0xFF (cause x) ∧ record (.captureMissed x) 8 0x0C 0xFF (cause x) ∧
      record (.holdRevoked x) 8 0x0D 0xFF (cause x)) ∧
  ∀ (s : State) (tag n : Byte) (hrdy : Bool), s.canServe →
    (1 ≤ n.toNat → n.toNat ≤ 4 → exec (.fetchNotice tag [n] hrdy) s =
      .next (({ s with notices := { queue := s.notices.queue.drop n.toNat
                                    lost := s.notices.lost && decide (n.toNat < s.notices.queue.length) } }).answered
        .fetchNotice tag [n] .done
        (BitVec.ofNat 8 (min n.toNat s.notices.queue.length) ::
          (s.notices.queue.take n.toNat).flatMap Notice.bytes) hrdy)) ∧
    (n.toNat = 0 ∨ 4 < n.toNat → exec (.fetchNotice tag [n] hrdy) s =
      .next (s.answered .fetchNotice tag [n] .refusedValue [0x05, 0, 1] hrdy))

/-- R134, R135, R139, R140, R141, R174: a SET of GENERAL, ANNUNCIATOR, CHANNEL or CONTACT stores exactly the item
that its body encodes. -/
def Obligations.SetStoresTheGlobalItems : Prop :=
  ∀ (s : State) (tag : Byte) (hrdy : Bool), s.canServe → s.store.isSealed = false →
    (∀ g : General, g.inRange → exec (.setGeneral tag (generalBody g) hrdy) s =
      .next (({ s with store := { s.store with pending := { s.store.pending with general := g } } }).answered
        .setGeneral tag (generalBody g) .done [] hrdy)) ∧
    (∀ x : AnnunciatorItem, x.inRange → exec (.setAnnunciator tag (annunciatorBody x) hrdy) s =
      .next (({ s with store := { s.store with pending := { s.store.pending with annunciator := x } } }).answered
        .setAnnunciator tag (annunciatorBody x) .done [] hrdy)) ∧
    (∀ (i : Fin 16) (x : ChannelItem), x.inRange → exec (.setChannel tag (channelBody i x) hrdy) s =
      .next (({ s with store := { s.store with
          pending := { s.store.pending with channels := s.store.pending.channels.set i x } } }).answered
        .setChannel tag (channelBody i x) .done [] hrdy)) ∧
    ∀ (k : Fin 6) (x : ContactItem), x.source.inRange = true → exec (.setContact tag (contactBody k x) hrdy) s =
      .next (({ s with store := { s.store with
          pending := { s.store.pending with contacts := s.store.pending.contacts.set k x } } }).answered
        .setContact tag (contactBody k x) .done [] hrdy)

/-- R141, R136, R137, R138, R174: a SET of TRANSFORMER, CURVE or MONITORS stores exactly the item that its body
encodes, for every term list and every curve in range. -/
def Obligations.SetStoresTheSlotItems : Prop :=
  ∀ (s : State) (tag : Byte) (hrdy : Bool) (u : Fin 8), s.canServe → s.store.isSealed = false →
    (∀ x : TransformerItem, x.inRange → exec (.setTransformer tag (transformerBody u x) hrdy) s =
      .next (({ s with store := { s.store with
          pending := { s.store.pending with transformers := s.store.pending.transformers.set u x } } }).answered
        .setTransformer tag (transformerBody u x) .done [] hrdy)) ∧
    (∀ x : List Breakpoint, curveInRange x → exec (.setCurve tag (curveBody u x) hrdy) s =
      .next (({ s with store := { s.store with
          pending := { s.store.pending with curves := s.store.pending.curves.set u x } } }).answered
        .setCurve tag (curveBody u x) .done [] hrdy)) ∧
    ∀ x : MonitorsItem, x.inRange → exec (.setMonitors tag (monitorsBody u x) hrdy) s =
      .next (({ s with store := { s.store with
          pending := { s.store.pending with monitors := s.store.pending.monitors.set u x } } }).answered
        .setMonitors tag (monitorsBody u x) .done [] hrdy)

/-- R141, R134 to R140, R174: each SET taken while OPEN is refused on its first field that fails, with its kind, the index
as received and the field's number, and is done if none fails; every SET is refused while SEALED. That all channels of a
TRANSFORMER's terms come before the weights, and all currents of a CURVE before the rises, is the MODEL's reading of
section 8.2 (notes/assumptions/12.md). -/
def Obligations.SetIsRefusedOnItsFirstBadField : Prop :=
  ∀ (s : State) (tag : Byte) (hrdy : Bool), s.canServe →
    (s.store.isSealed = false → ∀ (k : RequestKind) (p : List Byte), p.length = k.length →
      let b := fun o => (p.getD o 0).toNat
      let w := fun o => b o * 256 + b (o + 1)
      let z := fun o => if w o < 32768 then (w o : Int) else w o - 65536
      let index := if k = .setGeneral ∨ k = .setAnnunciator then 0 else p.getD 0 0
      let run := checkedInOrder
        (fun field => exec (k.command tag p hrdy) s =
          .next (s.answered k tag p .refusedValue [k.code, index, BitVec.ofNat 8 field] hrdy))
        (∃ c, exec (k.command tag p hrdy) s =
          .next (({ s with store := { s.store with pending := c } }).answered k tag p .done [] hrdy))
      (k = .setGeneral → run [(1, 10 ≤ b 0 ∧ b 0 ≤ 120), (2, w 1 ≤ 3600), (3, b 3 ≤ 1), (4, 1 ≤ b 4 ∧ b 4 ≤ 3),
        (5, b 5 ≤ 3), (6, b 6 ≤ 47)]) ∧
      (k = .setChannel → run [(0, b 0 ≤ 15), (1, b 1 ≤ 1), (2, -2048 ≤ z 2 ∧ z 2 ≤ 2047), (4, w 6 ≤ 2047)]) ∧
      (k = .setTransformer → run (
        [(0, b 0 ≤ 7), (1, b 1 ≤ 1), (2, b 2 ≤ 3)]
        ++ (List.range 3).map (fun n => (2 * n + 3, n < b 2 → b (3 * n + 3) ≤ 15))
        ++ (List.range 3).map (fun n => (2 * n + 4,
          n < b 2 → -4096 ≤ z (3 * n + 4) ∧ z (3 * n + 4) ≤ 4095 ∧ z (3 * n + 4) ≠ 0))
        ++ [(9, 1 ≤ w 12), (10, 1 ≤ w 14), (11, w 16 ≤ 32767)])) ∧
      (k = .setCurve → run (
        [(0, b 0 ≤ 7), (1, b 1 ≤ 8)]
        ++ (List.range 8).map (fun n => (2 * n + 2, n < b 1 → 1 ≤ w (4 * n + 2) ∧ w (4 * n + 2) ≤ 32767))
        ++ (List.range 8).map (fun n => (2 * n + 3, n < b 1 → w (4 * n + 4) ≤ 60000)))) ∧
      (k = .setMonitors → run [(0, b 0 ≤ 7), (1, w 1 ≤ 32767), (2, w 3 ≤ 32767), (3, w 5 ≤ 32767), (4, w 7 ≤ 60000),
        (5, w 9 ≤ 60000), (6, w 11 ≤ 60000), (10, w 25 ≤ 32767), (11, w 27 ≤ 60000), (12, 1 ≤ b 29 ∧ b 29 ≤ 16),
        (13, 1 ≤ b 30 ∧ b 30 ≤ 16)]) ∧
      (k = .setContact → run [(0, b 0 ≤ 5), (1, b 1 ≤ 1), (2, b 2 ≤ 6), (3, b 2 = 1 → b 3 ≤ 7),
        (4, b 2 = 1 ∨ b 2 = 2 → 1 ≤ b 4 ∧ b 4 ≤ 3), (5, b 5 ≤ 1)]) ∧
      (k = .setAnnunciator → run (
        [(1, b 0 ≤ 7), (2, 1 ≤ b 1 ∧ b 1 ≤ 8)]
        ++ (List.range 5).map (fun n => (2 * n + 4, 1 ≤ b (3 * n + 4) ∧ b (3 * n + 4) ≤ 16))
        ++ [(13, b 17 ≤ 1), (14, b 18 ≤ 7)]))) ∧
    (s.store.isSealed = true →
      ∀ k ∈ [RequestKind.setGeneral, .setChannel, .setTransformer, .setCurve, .setMonitors, .setContact, .setAnnunciator],
        ∀ p : List Byte, p.length = k.length →
          exec (k.command tag p hrdy) s = .next (s.answered k tag p .refusedState [] hrdy))

/-- R143, R144, R148: COMMIT seals an OPEN pending copy exactly when it passes every cross-item check, and otherwise names
the first failure in R144's order; DISCARD makes the pending copy a copy of the applied settings, OPEN. -/
def Obligations.CommitSealsAndDiscardReverts : Prop :=
  ∀ (s : State) (tag : Byte) (hrdy : Bool), s.canServe →
    (s.store.isSealed = true → exec (.commit tag [] hrdy) s =
      .next (s.answered .commit tag [] .refusedState [] hrdy)) ∧
    (s.store.isSealed = false → s.store.pending.crossChecked → exec (.commit tag [] hrdy) s =
      .next (({ s with store := { s.store with isSealed := true } }).answered .commit tag [] .done [] hrdy)) ∧
    (s.store.isSealed = false → ¬ s.store.pending.crossChecked →
      ∃ kind index field : Nat, exec (.commit tag [] hrdy) s =
          .next (s.answered .commit tag [] .refusedValue
            [BitVec.ofNat 8 kind, BitVec.ofNat 8 index, BitVec.ofNat 8 field] hrdy) ∧
        ¬ s.store.pending.passes kind index field ∧
        ∀ kind' index' field', kind' < kind ∨ (kind' = kind ∧ index' < index) ∨
            (kind' = kind ∧ index' = index ∧ field' < field) →
          s.store.pending.passes kind' index' field') ∧
    exec (.discard tag [] hrdy) s =
      .next (({ s with store := { s.store with pending := s.store.applied, isSealed := false } }).answered
        .discard tag [] .done [] hrdy)

/-- R96, R97, R98, R99, R103, R106: what ACKNOWLEDGE does to each slot it names, at its live level, and to the horn
pattern's position, what it answers, and what it refuses. While a level change waits for the Annunciator, the level is the
one before it, so that the acknowledgement comes before the whole change (R99; notes/assumptions/22.md). -/
def Obligations.AcknowledgeAnswersTheSlotsItChanged : Prop :=
  (∀ (s : State) (u : Fin 8), (s.flight.changes = [] → s.heardLevel u = (s.slots.get u).grade.level) ∧
    ∀ h, s.flight.changes = [h] → s.heardLevel u = if h.slot = u then h.old else (s.slots.get u).grade.level) ∧
  ∀ (s : State) (tag sel : Byte) (hrdy : Bool), s.canServe →
    let isDef := fun u => (s.store.applied.transformers.get u).defined
    let names := fun u : Fin 8 => isDef u && (decide (sel.toNat = u.val) || decide (sel = 0xFF))
    let hit := fun u => names u &&
      (decide ((s.slots.get u).signal.state = .flashing) || decide ((s.slots.get u).signal.state = .ringback))
    let A := s.store.applied.general.annunciateAt
    (8 ≤ sel.toNat → sel ≠ 0xFF → exec (.acknowledge tag [sel] hrdy) s =
      .next (s.answered .acknowledge tag [sel] .refusedValue [0x20, 0, 1] hrdy)) ∧
    (∀ u : Fin 8, sel.toNat = u.val → isDef u = false → exec (.acknowledge tag [sel] hrdy) s =
      .next (s.answered .acknowledge tag [sel] .refusedState [] hrdy)) ∧
    (sel = 0xFF ∨ (∃ u : Fin 8, sel.toNat = u.val ∧ isDef u = true) → ∃ (x : State) (set : Byte),
      exec (.acknowledge tag [sel] hrdy) s = .next (x.answered .acknowledge tag [sel] .done [set] hrdy) ∧
      (∀ u : Fin 8, set.getLsbD u.val = hit u) ∧
      ((∀ u, hit u = false) → x = s) ∧
      ((∃ u, hit u = true) →
        x = { s with slots := x.slots, ann := x.ann, notices := x.notices } ∧ x.toneSound ∧ s.positionFollows x ∧
        x.ann = { s.ann with hornPos := x.ann.hornPos, chirp := x.ann.chirp, tone := x.ann.tone
                             hornReset := x.ann.hornReset } ∧
        x.notices = s.notices.arrive { epoch := s.cond.epochNumber, body := .acknowledged .request (.ofFn hit) } ∧
        x.ann.silenced = s.ann.silenced ∧
        x.ann.chirp = (if s.store.applied.annunciator.chirpEnable then 2 else s.ann.chirp) ∧
        ∀ u, (hit u = false → x.slots.get u = s.slots.get u) ∧
          (hit u = true → x.slots.get u = { (s.slots.get u) with
            signal := if (s.slots.get u).signal.state = .flashing ∧ A ≤ s.heardLevel u
              then { state := .steady, flash := 0, acked := s.heardLevel u }
              else if (s.slots.get u).signal.state = .flashing then { state := .quiet, flash := 0, acked := 0 }
              else { (s.slots.get u).signal with state := .quiet, acked := 0 } })))

/-- R65, R67: PRESET THERMAL and CLEAR EXPOSURE, their effects and their refusals. -/
def Obligations.ThermalRequests : Prop :=
  ∀ (s : State) (tag sel : Byte) (hrdy : Bool), s.canServe →
    let isDef := fun u => (s.store.applied.transformers.get u).defined
    (∀ (a b c d e f : Byte), let p := [sel, a, b, c, d, e, f]
      let rise := a.toNat * 256 + b.toNat
      let expo := ((c.toNat * 256 + d.toNat) * 256 + e.toNat) * 256 + f.toNat
      (8 ≤ sel.toNat → exec (.presetThermal tag p hrdy) s =
        .next (s.answered .presetThermal tag p .refusedValue [0x23, 0, 1] hrdy)) ∧
      ∀ u : Fin 8, sel.toNat = u.val →
        (isDef u = false → exec (.presetThermal tag p hrdy) s =
          .next (s.answered .presetThermal tag p .refusedState [] hrdy)) ∧
        ∀ top, isDef u = true → (s.store.applied.curves.get u).getLast? = some top →
          exec (.presetThermal tag p hrdy) s = .next (({ s with slots := s.slots.set u { (s.slots.get u) with
            thermal := { (s.slots.get u).thermal with
              rise := min rise top.rise, exposure := expo
              satReported := if expo < 4294967295 then false else (s.slots.get u).thermal.satReported } } }).answered
            .presetThermal tag p .done [] hrdy)) ∧
    (8 ≤ sel.toNat → sel ≠ 0xFF → exec (.clearExposure tag [sel] hrdy) s =
      .next (s.answered .clearExposure tag [sel] .refusedValue [0x22, 0, 1] hrdy)) ∧
    (∀ u : Fin 8, sel.toNat = u.val → isDef u = false → exec (.clearExposure tag [sel] hrdy) s =
      .next (s.answered .clearExposure tag [sel] .refusedState [] hrdy)) ∧
    (sel = 0xFF ∨ (∃ u : Fin 8, sel.toNat = u.val ∧ isDef u = true) → ∃ x : State,
      exec (.clearExposure tag [sel] hrdy) s = .next (x.answered .clearExposure tag [sel] .done [] hrdy) ∧
      x = { s with slots := x.slots } ∧
      ∀ u : Fin 8,
        (isDef u = true → sel = 0xFF ∨ sel.toNat = u.val → x.slots.get u = { (s.slots.get u) with
          thermal := { (s.slots.get u).thermal with exposure := 0, satReported := false } }) ∧
        (isDef u = false ∨ (sel ≠ 0xFF ∧ sel.toNat ≠ u.val) → x.slots.get u = s.slots.get u))

/-- R34, R162: SELF CHECK schedules a check unless one is in hand; RESTART is answered DONE and waits for its reply. -/
def Obligations.SelfCheckAndRestartRequests : Prop :=
  ∀ (s : State) (tag : Byte) (hrdy : Bool), s.canServe →
    (s.cond.selfCheck = .scheduled ∨ s.cond.selfCheck = .running →
      exec (.selfCheck tag [] hrdy) s = .next (s.answered .selfCheck tag [] .busy [] hrdy)) ∧
    (s.cond.selfCheck = .none ∨ s.cond.selfCheck = .pass ∨ s.cond.selfCheck = .fail →
      exec (.selfCheck tag [] hrdy) s =
        .next (({ s with cond := { s.cond with selfCheck := .scheduled, origin := some .request } }).answered
          .selfCheck tag [] .done [] hrdy)) ∧
    exec (.restart tag [] hrdy) s = .next (s.replied 0x3F tag [] .restarting .done [] hrdy)

/-- R124, R125, R127: CAPTURE TRIGGER, CAPTURE HOLD and CAPTURE RELEASE by the capture state. -/
def Obligations.CaptureRequestsByState : Prop :=
  ∀ (s : State) (tag : Byte) (hrdy : Bool), s.canServe →
    let depth := s.store.applied.general.preDepth
    let kept := min s.capture.ring.length depth
    let taken : State := { s with capture := { s.capture with
      depth := depth, preKept := kept, ring := s.capture.ring.drop (s.capture.ring.length - kept)
      post := 48 - depth, state := .triggered
      record := some { cause := .request, cycle := s.scanner.cycleNumber, epoch := s.cond.epochNumber } } }
    let revoked : Notice := { epoch := s.cond.epochNumber, body := .holdRevoked .request }
    let trigger := exec (.captureTrigger tag [] hrdy) s
    let hold := exec (.captureHold tag [] hrdy) s
    let release := exec (.captureRelease tag [] hrdy) s
    (s.capture.state = .armed →
      trigger = .next (taken.answered .captureTrigger tag [] .done [] hrdy) ∧
      hold = .next { s with
        capture := { s.capture with holdPending := true }
        link := { s.link with
          service := some { kind := 0x31, tag := tag, payload := [], stage := .holding } } } ∧
      release = .next (s.answered .captureRelease tag [] .refusedState [] hrdy)) ∧
    (s.capture.state = .held →
      trigger = .next (({ taken with notices := s.notices.arrive revoked }).answered
        .captureTrigger tag [] .done [] hrdy) ∧
      hold = .next (s.answered .captureHold tag [] .done [] hrdy) ∧
      release = .next (({ s with capture := { s.capture with state := .armed } }).answered
        .captureRelease tag [] .done [] hrdy)) ∧
    (s.capture.state = .triggered →
      trigger = .next (s.answered .captureTrigger tag [] .refusedState [] hrdy) ∧
      hold = .next (s.answered .captureHold tag [] .busy [] hrdy) ∧
      release = .next (s.answered .captureRelease tag [] .refusedState [] hrdy)) ∧
    (s.capture.state = .frozen →
      trigger = .next (s.answered .captureTrigger tag [] .refusedState [] hrdy) ∧
      hold = .next (s.answered .captureHold tag [] .done [] hrdy) ∧
      release = .next (({ s with capture := { s.capture with
        state := .armed, ring := [], preKept := 0, post := 0, record := none, missed := 0
        missReported := false } }).answered .captureRelease tag [] .done [] hrdy))

/-- R159: a request answered REFUSED-VALUE, REFUSED-STATE or BUSY has changed nothing; every request is answered at
once but a CAPTURE HOLD in ARMED and a RESTART, whose effects wait. -/
def Obligations.RefusedRequestsChangeNothing : Prop :=
  ∀ (s : State) (k : RequestKind) (tag : Byte) (payload : List Byte) (hrdy : Bool), s.canServe →
    (∃ status body, status ≠ .done ∧
      exec (k.command tag payload hrdy) s = .next (s.answered k tag payload status body hrdy)) ∨
    (∃ (x : State) (body : List Byte), x.link = s.link ∧ x.time = s.time ∧ x.tracker = s.tracker ∧
      x.scanner = s.scanner ∧ x.store.applied = s.store.applied ∧ x.flight = s.flight ∧ x.pending = s.pending ∧
      exec (k.command tag payload hrdy) s = .next (x.answered k tag payload .done body hrdy)) ∨
    (k = .restart ∧ exec (k.command tag payload hrdy) s = .next (s.replied 0x3F tag payload .restarting .done [] hrdy)) ∨
    (k = .captureHold ∧ s.capture.state = .armed ∧ exec (k.command tag payload hrdy) s = .next { s with
      capture := { s.capture with holdPending := true }
      link := { s.link with
        service := some { kind := 0x31, tag := tag, payload := payload, stage := .holding } } })

/-! ## What no command does -/

/-- R1, R2: the straps and RUNNING hold until the next power-on reset. -/
def Obligations.StrapsAndRunningHoldUntilReset : Prop :=
  ∀ (c : Instr) (s t : State), exec c s = .next t → (∀ rate fnom, c ≠ .powerOnReset rate fnom) →
    t.time.rate = s.time.rate ∧ t.time.fnom = s.time.fnom ∧ (s.time.phase = .running → t.time.phase = .running)

/-- R62: a slot's exposure never decreases except by CLEAR EXPOSURE, PRESET THERMAL, power-on reset, or the slot's
removal or new definition at a settings apply. -/
def Obligations.ExposureNeverDecreasesOtherwise : Prop :=
  ∀ (c : Instr) (s t : State) (u : Fin 8), exec c s = .next t → (s.slots.get u).thermal.exposure ≤ 4294967295 →
    (t.slots.get u).thermal.exposure < (s.slots.get u).thermal.exposure →
    (∃ tag p h, c = .clearExposure tag p h) ∨ (∃ tag p h, c = .presetThermal tag p h) ∨
    (∃ rate fnom, c = .powerOnReset rate fnom) ∨
    (s.store.isSealed = true ∧
      (t.store.applied.transformers.get u).defined ≠ (s.store.applied.transformers.get u).defined)

/-- R65, R88: a slot's alarm level changes only at an epoch completion or at power-on reset. -/
def Obligations.LevelsMoveOnlyAtAnEpochCompletion : Prop :=
  ∀ (c : Instr) (s t : State) (u : Fin 8), s.flight.sound → exec c s = .next t →
    (t.slots.get u).grade.level ≠ (s.slots.get u).grade.level →
    (∃ o w h, c = .epochCompletion o w h) ∨ ∃ rate fnom, c = .powerOnReset rate fnom

/-- R117: while capture is TRIGGERED or FROZEN no frame in the ring is overwritten: the frames stand, in their places,
until a CAPTURE RELEASE, the end of a RESTART's reply, or power-on reset. -/
def Obligations.CapturedFramesAreNotOverwritten : Prop :=
  ∀ (c : Instr) (s t : State), exec c s = .next t → s.capture.state = .triggered ∨ s.capture.state = .frozen →
    s.capture.holdPending = false →
    (∃ more, t.capture.ring = s.capture.ring ++ more ∧ t.capture.record = s.capture.record) ∨
    (∃ tag p h, c = .captureRelease tag p h) ∨ (c = .replySent ∧ s.restartInService = true) ∨
    ∃ rate fnom, c = .powerOnReset rate fnom

/-! ## What every step keeps -/

/-- The state after reset is sound in every block. -/
def Obligations.ResetIsSound : Prop := State.reset.sound

/-- R165, R167: an arriving notice is placed last below 32 and at 32 is discarded and sets the lost mark; the queue holds
at most 32 notices and is never empty while the lost mark is set. -/
def Obligations.StepKeepsTheNoticeQueue : Prop :=
  (∀ (q : NoticeQueue) (n : Notice),
    (q.queue.length < 32 → q.arrive n = { queue := q.queue ++ [n], lost := q.lost }) ∧
    (q.queue.length = 32 → q.arrive n = { queue := q.queue, lost := true })) ∧
  ∀ s t : State, s.notices.sound → step s = .next t → t.notices.sound

/-- R5 to R9, R11, R18: the ranges of the tracker and what its states imply, the range of P_s, and that the cycle number is
that of the cycle in progress. -/
def Obligations.StepKeepsTheTrackerAndItsPeriods : Prop :=
  ∀ s t : State, s.tracker.sound ∧ s.scanner.sound ∧ s.flight.givenSound → step s = .next t →
    t.tracker.sound ∧ t.scanner.sound ∧ t.flight.givenSound

/-- R133, R145: both copies stay in range, and the applied copy passes every cross-item check of COMMIT. -/
def Obligations.StepKeepsTheSettingsChecked : Prop :=
  ∀ s t : State, s.store.sound → step s = .next t → t.store.sound

/-- Section 3.4, R57, R60, R63, R70, R91: a slot that is not defined holds nothing, and the ranges of every thermal
record. -/
def Obligations.StepKeepsEmptySlotsAndThermalRanges : Prop :=
  (∀ s t : State, s.undefinedSlotsZero → step s = .next t → t.undefinedSlotsZero) ∧
  ∀ s t : State, s.store.sound → (∀ u, (s.slots.get u).thermal.sound) → step s = .next t →
    ∀ u, (t.slots.get u).thermal.sound

/-- R70, R77 to R80: the runs of every defined slot and their extremes. -/
def Obligations.StepKeepsTheRuns : Prop :=
  ∀ s t : State, s.store.sound →
    (∀ u, s.isDefined u = true → (s.slots.get u).grade.sound (s.applied.monitors.get u)) → step s = .next t →
    ∀ u, t.isDefined u = true → (t.slots.get u).grade.sound (t.applied.monitors.get u)

/-- R85, R91, R104: the relations between annunciation state, live level and A, the live level being the one that the
Annunciator has; a level change that waits for it leads to the live level; and the line carries the tone that its
source calls for, and no other. -/
def Obligations.StepKeepsTheAnnunciator : Prop :=
  (∀ s t : State, s.toneSound → step s = .next t → t.toneSound) ∧
  ∀ s t : State, s.store.sound → s.flight.sound → s.signalsSound → step s = .next t → t.signalsSound

/-- R114, R117, R120, R122, R129, R156, R159, R160: the ring, the counts and the trigger record by the capture state;
and a reply is ready or being sent only for the answered request in service. -/
def Obligations.StepKeepsCaptureAndService : Prop :=
  ∀ s t : State, s.store.sound → s.capture.sound ∧ s.linkSound → step s = .next t → t.capture.sound ∧ t.linkSound

/-- R11, R47, R64, R87, R145: a cycle start stands given exactly from the tracker's part to the scanner's; and of an
epoch completion, a slot's thermal step is taken after its current, its grading after that and its annunciation after the
grading, the LEVEL triggers after every grading and the apply after all of them. -/
def Obligations.StepKeepsTheOrderOfParts : Prop :=
  ∀ s t : State, s.flight.sound → step s = .next t → t.flight.sound
end

