-- ==== Sys2Proof/Laws/State.lean ====
section
/-! SUPPORT. Reading a field after one update of the state: one lemma per update and field, each by `rfl`. -/

namespace Sys2Proof.Machine

section
variable (s : State) (x : Timebase)
@[simp] theorem State.setTime_pending : (s.setTime x).pending = s.pending := rfl
@[simp] theorem State.setTime_time : (s.setTime x).time = x := rfl
@[simp] theorem State.setTime_tracker : (s.setTime x).tracker = s.tracker := rfl
@[simp] theorem State.setTime_scanner : (s.setTime x).scanner = s.scanner := rfl
@[simp] theorem State.setTime_cond : (s.setTime x).cond = s.cond := rfl
@[simp] theorem State.setTime_slots : (s.setTime x).slots = s.slots := rfl
@[simp] theorem State.setTime_ann : (s.setTime x).ann = s.ann := rfl
@[simp] theorem State.setTime_capture : (s.setTime x).capture = s.capture := rfl
@[simp] theorem State.setTime_store : (s.setTime x).store = s.store := rfl
@[simp] theorem State.setTime_link : (s.setTime x).link = s.link := rfl
@[simp] theorem State.setTime_notices : (s.setTime x).notices = s.notices := rfl
@[simp] theorem State.setTime_flight : (s.setTime x).flight = s.flight := rfl
@[simp] theorem State.setTime_applied : (s.setTime x).applied = s.applied := rfl
@[simp] theorem State.setTime_isDefined (t : Fin 8) : (s.setTime x).isDefined t = s.isDefined t := rfl
end

section
variable (s : State) (x : Tracker)
@[simp] theorem State.setTracker_pending : (s.setTracker x).pending = s.pending := rfl
@[simp] theorem State.setTracker_time : (s.setTracker x).time = s.time := rfl
@[simp] theorem State.setTracker_tracker : (s.setTracker x).tracker = x := rfl
@[simp] theorem State.setTracker_scanner : (s.setTracker x).scanner = s.scanner := rfl
@[simp] theorem State.setTracker_cond : (s.setTracker x).cond = s.cond := rfl
@[simp] theorem State.setTracker_slots : (s.setTracker x).slots = s.slots := rfl
@[simp] theorem State.setTracker_ann : (s.setTracker x).ann = s.ann := rfl
@[simp] theorem State.setTracker_capture : (s.setTracker x).capture = s.capture := rfl
@[simp] theorem State.setTracker_store : (s.setTracker x).store = s.store := rfl
@[simp] theorem State.setTracker_link : (s.setTracker x).link = s.link := rfl
@[simp] theorem State.setTracker_notices : (s.setTracker x).notices = s.notices := rfl
@[simp] theorem State.setTracker_flight : (s.setTracker x).flight = s.flight := rfl
@[simp] theorem State.setTracker_isRunning : (s.setTracker x).isRunning = s.isRunning := rfl
@[simp] theorem State.setTracker_applied : (s.setTracker x).applied = s.applied := rfl
@[simp] theorem State.setTracker_isDefined (t : Fin 8) : (s.setTracker x).isDefined t = s.isDefined t := rfl
end

section
variable (s : State) (x : Scanner)
@[simp] theorem State.setScanner_pending : (s.setScanner x).pending = s.pending := rfl
@[simp] theorem State.setScanner_time : (s.setScanner x).time = s.time := rfl
@[simp] theorem State.setScanner_tracker : (s.setScanner x).tracker = s.tracker := rfl
@[simp] theorem State.setScanner_scanner : (s.setScanner x).scanner = x := rfl
@[simp] theorem State.setScanner_cond : (s.setScanner x).cond = s.cond := rfl
@[simp] theorem State.setScanner_slots : (s.setScanner x).slots = s.slots := rfl
@[simp] theorem State.setScanner_ann : (s.setScanner x).ann = s.ann := rfl
@[simp] theorem State.setScanner_capture : (s.setScanner x).capture = s.capture := rfl
@[simp] theorem State.setScanner_store : (s.setScanner x).store = s.store := rfl
@[simp] theorem State.setScanner_link : (s.setScanner x).link = s.link := rfl
@[simp] theorem State.setScanner_notices : (s.setScanner x).notices = s.notices := rfl
@[simp] theorem State.setScanner_flight : (s.setScanner x).flight = s.flight := rfl
@[simp] theorem State.setScanner_isRunning : (s.setScanner x).isRunning = s.isRunning := rfl
@[simp] theorem State.setScanner_applied : (s.setScanner x).applied = s.applied := rfl
@[simp] theorem State.setScanner_isDefined (t : Fin 8) : (s.setScanner x).isDefined t = s.isDefined t := rfl
end

section
variable (s : State) (x : Conditioner)
@[simp] theorem State.setCond_pending : (s.setCond x).pending = s.pending := rfl
@[simp] theorem State.setCond_time : (s.setCond x).time = s.time := rfl
@[simp] theorem State.setCond_tracker : (s.setCond x).tracker = s.tracker := rfl
@[simp] theorem State.setCond_scanner : (s.setCond x).scanner = s.scanner := rfl
@[simp] theorem State.setCond_cond : (s.setCond x).cond = x := rfl
@[simp] theorem State.setCond_slots : (s.setCond x).slots = s.slots := rfl
@[simp] theorem State.setCond_ann : (s.setCond x).ann = s.ann := rfl
@[simp] theorem State.setCond_capture : (s.setCond x).capture = s.capture := rfl
@[simp] theorem State.setCond_store : (s.setCond x).store = s.store := rfl
@[simp] theorem State.setCond_link : (s.setCond x).link = s.link := rfl
@[simp] theorem State.setCond_notices : (s.setCond x).notices = s.notices := rfl
@[simp] theorem State.setCond_flight : (s.setCond x).flight = s.flight := rfl
@[simp] theorem State.setCond_isRunning : (s.setCond x).isRunning = s.isRunning := rfl
@[simp] theorem State.setCond_applied : (s.setCond x).applied = s.applied := rfl
@[simp] theorem State.setCond_isDefined (t : Fin 8) : (s.setCond x).isDefined t = s.isDefined t := rfl
end

section
variable (s : State) (x : Table 8 Slot)
@[simp] theorem State.setSlots_pending : (s.setSlots x).pending = s.pending := rfl
@[simp] theorem State.setSlots_time : (s.setSlots x).time = s.time := rfl
@[simp] theorem State.setSlots_tracker : (s.setSlots x).tracker = s.tracker := rfl
@[simp] theorem State.setSlots_scanner : (s.setSlots x).scanner = s.scanner := rfl
@[simp] theorem State.setSlots_cond : (s.setSlots x).cond = s.cond := rfl
@[simp] theorem State.setSlots_slots : (s.setSlots x).slots = x := rfl
@[simp] theorem State.setSlots_ann : (s.setSlots x).ann = s.ann := rfl
@[simp] theorem State.setSlots_capture : (s.setSlots x).capture = s.capture := rfl
@[simp] theorem State.setSlots_store : (s.setSlots x).store = s.store := rfl
@[simp] theorem State.setSlots_link : (s.setSlots x).link = s.link := rfl
@[simp] theorem State.setSlots_notices : (s.setSlots x).notices = s.notices := rfl
@[simp] theorem State.setSlots_flight : (s.setSlots x).flight = s.flight := rfl
@[simp] theorem State.setSlots_isRunning : (s.setSlots x).isRunning = s.isRunning := rfl
@[simp] theorem State.setSlots_applied : (s.setSlots x).applied = s.applied := rfl
@[simp] theorem State.setSlots_isDefined (t : Fin 8) : (s.setSlots x).isDefined t = s.isDefined t := rfl
end

section
variable (s : State) (x : Annunciator)
@[simp] theorem State.setAnn_pending : (s.setAnn x).pending = s.pending := rfl
@[simp] theorem State.setAnn_time : (s.setAnn x).time = s.time := rfl
@[simp] theorem State.setAnn_tracker : (s.setAnn x).tracker = s.tracker := rfl
@[simp] theorem State.setAnn_scanner : (s.setAnn x).scanner = s.scanner := rfl
@[simp] theorem State.setAnn_cond : (s.setAnn x).cond = s.cond := rfl
@[simp] theorem State.setAnn_slots : (s.setAnn x).slots = s.slots := rfl
@[simp] theorem State.setAnn_ann : (s.setAnn x).ann = x := rfl
@[simp] theorem State.setAnn_capture : (s.setAnn x).capture = s.capture := rfl
@[simp] theorem State.setAnn_store : (s.setAnn x).store = s.store := rfl
@[simp] theorem State.setAnn_link : (s.setAnn x).link = s.link := rfl
@[simp] theorem State.setAnn_notices : (s.setAnn x).notices = s.notices := rfl
@[simp] theorem State.setAnn_flight : (s.setAnn x).flight = s.flight := rfl
@[simp] theorem State.setAnn_isRunning : (s.setAnn x).isRunning = s.isRunning := rfl
@[simp] theorem State.setAnn_applied : (s.setAnn x).applied = s.applied := rfl
@[simp] theorem State.setAnn_isDefined (t : Fin 8) : (s.setAnn x).isDefined t = s.isDefined t := rfl
end

section
variable (s : State) (x : Capture)
@[simp] theorem State.setCapture_pending : (s.setCapture x).pending = s.pending := rfl
@[simp] theorem State.setCapture_time : (s.setCapture x).time = s.time := rfl
@[simp] theorem State.setCapture_tracker : (s.setCapture x).tracker = s.tracker := rfl
@[simp] theorem State.setCapture_scanner : (s.setCapture x).scanner = s.scanner := rfl
@[simp] theorem State.setCapture_cond : (s.setCapture x).cond = s.cond := rfl
@[simp] theorem State.setCapture_slots : (s.setCapture x).slots = s.slots := rfl
@[simp] theorem State.setCapture_ann : (s.setCapture x).ann = s.ann := rfl
@[simp] theorem State.setCapture_capture : (s.setCapture x).capture = x := rfl
@[simp] theorem State.setCapture_store : (s.setCapture x).store = s.store := rfl
@[simp] theorem State.setCapture_link : (s.setCapture x).link = s.link := rfl
@[simp] theorem State.setCapture_notices : (s.setCapture x).notices = s.notices := rfl
@[simp] theorem State.setCapture_flight : (s.setCapture x).flight = s.flight := rfl
@[simp] theorem State.setCapture_isRunning : (s.setCapture x).isRunning = s.isRunning := rfl
@[simp] theorem State.setCapture_applied : (s.setCapture x).applied = s.applied := rfl
@[simp] theorem State.setCapture_isDefined (t : Fin 8) : (s.setCapture x).isDefined t = s.isDefined t := rfl
end

section
variable (s : State) (x : Store)
@[simp] theorem State.setStore_pending : (s.setStore x).pending = s.pending := rfl
@[simp] theorem State.setStore_time : (s.setStore x).time = s.time := rfl
@[simp] theorem State.setStore_tracker : (s.setStore x).tracker = s.tracker := rfl
@[simp] theorem State.setStore_scanner : (s.setStore x).scanner = s.scanner := rfl
@[simp] theorem State.setStore_cond : (s.setStore x).cond = s.cond := rfl
@[simp] theorem State.setStore_slots : (s.setStore x).slots = s.slots := rfl
@[simp] theorem State.setStore_ann : (s.setStore x).ann = s.ann := rfl
@[simp] theorem State.setStore_capture : (s.setStore x).capture = s.capture := rfl
@[simp] theorem State.setStore_store : (s.setStore x).store = x := rfl
@[simp] theorem State.setStore_link : (s.setStore x).link = s.link := rfl
@[simp] theorem State.setStore_notices : (s.setStore x).notices = s.notices := rfl
@[simp] theorem State.setStore_flight : (s.setStore x).flight = s.flight := rfl
@[simp] theorem State.setStore_isRunning : (s.setStore x).isRunning = s.isRunning := rfl
end

section
variable (s : State) (x : Link)
@[simp] theorem State.setLink_pending : (s.setLink x).pending = s.pending := rfl
@[simp] theorem State.setLink_time : (s.setLink x).time = s.time := rfl
@[simp] theorem State.setLink_tracker : (s.setLink x).tracker = s.tracker := rfl
@[simp] theorem State.setLink_scanner : (s.setLink x).scanner = s.scanner := rfl
@[simp] theorem State.setLink_cond : (s.setLink x).cond = s.cond := rfl
@[simp] theorem State.setLink_slots : (s.setLink x).slots = s.slots := rfl
@[simp] theorem State.setLink_ann : (s.setLink x).ann = s.ann := rfl
@[simp] theorem State.setLink_capture : (s.setLink x).capture = s.capture := rfl
@[simp] theorem State.setLink_store : (s.setLink x).store = s.store := rfl
@[simp] theorem State.setLink_link : (s.setLink x).link = x := rfl
@[simp] theorem State.setLink_notices : (s.setLink x).notices = s.notices := rfl
@[simp] theorem State.setLink_flight : (s.setLink x).flight = s.flight := rfl
@[simp] theorem State.setLink_isRunning : (s.setLink x).isRunning = s.isRunning := rfl
@[simp] theorem State.setLink_applied : (s.setLink x).applied = s.applied := rfl
@[simp] theorem State.setLink_isDefined (t : Fin 8) : (s.setLink x).isDefined t = s.isDefined t := rfl
end

section
variable (s : State) (x : NoticeQueue)
@[simp] theorem State.setNotices_pending : (s.setNotices x).pending = s.pending := rfl
@[simp] theorem State.setNotices_time : (s.setNotices x).time = s.time := rfl
@[simp] theorem State.setNotices_tracker : (s.setNotices x).tracker = s.tracker := rfl
@[simp] theorem State.setNotices_scanner : (s.setNotices x).scanner = s.scanner := rfl
@[simp] theorem State.setNotices_cond : (s.setNotices x).cond = s.cond := rfl
@[simp] theorem State.setNotices_slots : (s.setNotices x).slots = s.slots := rfl
@[simp] theorem State.setNotices_ann : (s.setNotices x).ann = s.ann := rfl
@[simp] theorem State.setNotices_capture : (s.setNotices x).capture = s.capture := rfl
@[simp] theorem State.setNotices_store : (s.setNotices x).store = s.store := rfl
@[simp] theorem State.setNotices_link : (s.setNotices x).link = s.link := rfl
@[simp] theorem State.setNotices_notices : (s.setNotices x).notices = x := rfl
@[simp] theorem State.setNotices_flight : (s.setNotices x).flight = s.flight := rfl
@[simp] theorem State.setNotices_isRunning : (s.setNotices x).isRunning = s.isRunning := rfl
@[simp] theorem State.setNotices_applied : (s.setNotices x).applied = s.applied := rfl
@[simp] theorem State.setNotices_isDefined (t : Fin 8) : (s.setNotices x).isDefined t = s.isDefined t := rfl
end

section
variable (s : State) (x : Flight)
@[simp] theorem State.setFlight_pending : (s.setFlight x).pending = s.pending := rfl
@[simp] theorem State.setFlight_time : (s.setFlight x).time = s.time := rfl
@[simp] theorem State.setFlight_tracker : (s.setFlight x).tracker = s.tracker := rfl
@[simp] theorem State.setFlight_scanner : (s.setFlight x).scanner = s.scanner := rfl
@[simp] theorem State.setFlight_cond : (s.setFlight x).cond = s.cond := rfl
@[simp] theorem State.setFlight_slots : (s.setFlight x).slots = s.slots := rfl
@[simp] theorem State.setFlight_ann : (s.setFlight x).ann = s.ann := rfl
@[simp] theorem State.setFlight_capture : (s.setFlight x).capture = s.capture := rfl
@[simp] theorem State.setFlight_store : (s.setFlight x).store = s.store := rfl
@[simp] theorem State.setFlight_link : (s.setFlight x).link = s.link := rfl
@[simp] theorem State.setFlight_notices : (s.setFlight x).notices = s.notices := rfl
@[simp] theorem State.setFlight_flight : (s.setFlight x).flight = x := rfl
@[simp] theorem State.setFlight_isRunning : (s.setFlight x).isRunning = s.isRunning := rfl
@[simp] theorem State.setFlight_applied : (s.setFlight x).applied = s.applied := rfl
@[simp] theorem State.setFlight_isDefined (t : Fin 8) : (s.setFlight x).isDefined t = s.isDefined t := rfl
end

end Sys2Proof.Machine
end

