-- ==== Sys2Proof/Laws/Notices.lean ====
section
/-! SUPPORT. What queueing a notice does (R165), and that it touches the Notice Queue alone. -/

namespace Sys2Proof.Machine

/-- The two outcomes of an arrival (R165). -/
theorem NoticeQueue.arrive_cases (q : NoticeQueue) (n : Notice) :
    (q.queue.length < 32 ∧ q.arrive n = { queue := q.queue ++ [n], lost := q.lost }) ∨
      (32 ≤ q.queue.length ∧ q.arrive n = { queue := q.queue, lost := true }) := by
  unfold NoticeQueue.arrive
  split
  · exact .inl ⟨‹_›, rfl⟩
  · exact .inr ⟨by omega, rfl⟩

/-- R165, R167: an arrival keeps the count within 32 and the queue non-empty under the lost mark. -/
theorem NoticeQueue.arrive_keeps (q : NoticeQueue) (n : Notice)
    (h : q.queue.length ≤ 32 ∧ (q.lost = true → q.queue ≠ [])) :
    (q.arrive n).queue.length ≤ 32 ∧ ((q.arrive n).lost = true → (q.arrive n).queue ≠ []) := by
  rcases q.arrive_cases n with ⟨hl, e⟩ | ⟨hl, e⟩
  · rw [e]; simp; omega
  · rw [e]; refine ⟨h.1, fun _ he => ?_⟩
    simp only at he
    simp [he] at hl

/-- An arriving notice stands after those already queued, or 32 are held and the lost mark is set (R165). -/
theorem NoticeQueue.arrive_mem (q : NoticeQueue) (n : Notice) :
    n ∈ (q.arrive n).queue.drop q.queue.length ∨ (32 ≤ (q.arrive n).queue.length ∧ (q.arrive n).lost = true) := by
  rcases q.arrive_cases n with ⟨_, e⟩ | ⟨h, e⟩ <;> rw [e] <;> simp
  exact h

/-- What has been queued after the first `k`, or lost for want of room, stays so when another arrives (R165). -/
theorem NoticeQueue.arrive_mono (q : NoticeQueue) (n m : Notice) (k : Nat)
    (h : m ∈ q.queue.drop k ∨ (32 ≤ q.queue.length ∧ q.lost = true)) :
    m ∈ (q.arrive n).queue.drop k ∨ (32 ≤ (q.arrive n).queue.length ∧ (q.arrive n).lost = true) := by
  rcases q.arrive_cases n with ⟨hl, e⟩ | ⟨hl, e⟩ <;> rw [e]
  · rcases h with h | h
    · exact .inl (by rw [List.drop_append]; exact List.mem_append_left _ h)
    · exact absurd hl (by omega)
  · exact h.imp_right fun x => ⟨x.1, rfl⟩

section
variable (s : State) (b : NoticeBody)
@[simp] theorem State.notify_pending : (s.notify b).pending = s.pending := rfl
@[simp] theorem State.notify_time : (s.notify b).time = s.time := rfl
@[simp] theorem State.notify_tracker : (s.notify b).tracker = s.tracker := rfl
@[simp] theorem State.notify_scanner : (s.notify b).scanner = s.scanner := rfl
@[simp] theorem State.notify_cond : (s.notify b).cond = s.cond := rfl
@[simp] theorem State.notify_slots : (s.notify b).slots = s.slots := rfl
@[simp] theorem State.notify_ann : (s.notify b).ann = s.ann := rfl
@[simp] theorem State.notify_capture : (s.notify b).capture = s.capture := rfl
@[simp] theorem State.notify_store : (s.notify b).store = s.store := rfl
@[simp] theorem State.notify_link : (s.notify b).link = s.link := rfl
@[simp] theorem State.notify_flight : (s.notify b).flight = s.flight := rfl
@[simp] theorem State.notify_applied : (s.notify b).applied = s.applied := rfl
@[simp] theorem State.notify_isRunning : (s.notify b).isRunning = s.isRunning := rfl
@[simp] theorem State.notify_isDefined (t : Fin 8) : (s.notify b).isDefined t = s.isDefined t := rfl
@[simp] theorem State.notify_notices :
    (s.notify b).notices = s.notices.arrive { epoch := s.cond.epochNumber, body := b } := rfl
end

section
variable (bs : List NoticeBody)

@[simp] theorem State.notifyAll_nil (s : State) : s.notifyAll [] = s := rfl
@[simp] theorem State.notifyAll_cons (s : State) (b : NoticeBody) :
    s.notifyAll (b :: bs) = (s.notify b).notifyAll bs := rfl

@[simp] theorem State.notifyAll_pending : ∀ (s : State), (s.notifyAll bs).pending = s.pending := by
  induction bs with
  | nil => intro s; rfl
  | cons b bs ih => intro s; exact ih (s.notify b)
@[simp] theorem State.notifyAll_time : ∀ (s : State), (s.notifyAll bs).time = s.time := by
  induction bs with
  | nil => intro s; rfl
  | cons b bs ih => intro s; exact ih (s.notify b)
@[simp] theorem State.notifyAll_tracker : ∀ (s : State), (s.notifyAll bs).tracker = s.tracker := by
  induction bs with
  | nil => intro s; rfl
  | cons b bs ih => intro s; exact ih (s.notify b)
@[simp] theorem State.notifyAll_scanner : ∀ (s : State), (s.notifyAll bs).scanner = s.scanner := by
  induction bs with
  | nil => intro s; rfl
  | cons b bs ih => intro s; exact ih (s.notify b)
@[simp] theorem State.notifyAll_cond : ∀ (s : State), (s.notifyAll bs).cond = s.cond := by
  induction bs with
  | nil => intro s; rfl
  | cons b bs ih => intro s; exact ih (s.notify b)
@[simp] theorem State.notifyAll_slots : ∀ (s : State), (s.notifyAll bs).slots = s.slots := by
  induction bs with
  | nil => intro s; rfl
  | cons b bs ih => intro s; exact ih (s.notify b)
@[simp] theorem State.notifyAll_ann : ∀ (s : State), (s.notifyAll bs).ann = s.ann := by
  induction bs with
  | nil => intro s; rfl
  | cons b bs ih => intro s; exact ih (s.notify b)
@[simp] theorem State.notifyAll_capture : ∀ (s : State), (s.notifyAll bs).capture = s.capture := by
  induction bs with
  | nil => intro s; rfl
  | cons b bs ih => intro s; exact ih (s.notify b)
@[simp] theorem State.notifyAll_store : ∀ (s : State), (s.notifyAll bs).store = s.store := by
  induction bs with
  | nil => intro s; rfl
  | cons b bs ih => intro s; exact ih (s.notify b)
@[simp] theorem State.notifyAll_link : ∀ (s : State), (s.notifyAll bs).link = s.link := by
  induction bs with
  | nil => intro s; rfl
  | cons b bs ih => intro s; exact ih (s.notify b)
@[simp] theorem State.notifyAll_flight : ∀ (s : State), (s.notifyAll bs).flight = s.flight := by
  induction bs with
  | nil => intro s; rfl
  | cons b bs ih => intro s; exact ih (s.notify b)
@[simp] theorem State.notifyAll_applied : ∀ (s : State), (s.notifyAll bs).applied = s.applied := by
  induction bs with
  | nil => intro s; rfl
  | cons b bs ih => intro s; exact ih (s.notify b)
@[simp] theorem State.notifyAll_isRunning : ∀ (s : State), (s.notifyAll bs).isRunning = s.isRunning := by
  induction bs with
  | nil => intro s; rfl
  | cons b bs ih => intro s; exact ih (s.notify b)
@[simp] theorem State.notifyAll_isDefined (s : State) (t : Fin 8) : (s.notifyAll bs).isDefined t = s.isDefined t := by
  unfold State.isDefined; rw [State.notifyAll_store]

/-- Queueing several notices keeps the queue's bounds (R165, R167). -/
theorem State.notifyAll_keeps : ∀ (s : State),
    (s.notices.queue.length ≤ 32 ∧ (s.notices.lost = true → s.notices.queue ≠ [])) →
    (s.notifyAll bs).notices.queue.length ≤ 32 ∧
      ((s.notifyAll bs).notices.lost = true → (s.notifyAll bs).notices.queue ≠ []) := by
  induction bs with
  | nil => intro s h; exact h
  | cons b bs ih => intro s h; exact ih _ (NoticeQueue.arrive_keeps _ _ h)

end

end Sys2Proof.Machine
end

