-- ==== Sys2Proof/Laws/Table.lean ====
section
/-! SUPPORT. Reading a table after an update. -/

namespace Sys2Proof

variable {n : Nat} {α : Type}

theorem Table.ext_cells {a b : Table n α} (h : a.cells = b.cells) : a = b := by
  cases a; cases b; cases h; rfl

@[simp] theorem Table.get_set_self (t : Table n α) (i : Fin n) (x : α) : (t.set i x).get i = x := by
  simp [Table.get, Table.set]

theorem Table.get_set_ne (t : Table n α) {i j : Fin n} (x : α) (h : j ≠ i) : (t.set i x).get j = t.get j := by
  have : i.val ≠ j.val := fun e => h (Fin.ext e.symm)
  simp [Table.get, Table.set, this]

theorem Table.get_set (t : Table n α) (i j : Fin n) (x : α) :
    (t.set i x).get j = if j = i then x else t.get j := by
  by_cases h : j = i
  · subst h; simp
  · simp [h, Table.get_set_ne]

@[simp] theorem Table.get_ofFn (f : Fin n → α) (i : Fin n) : (Table.ofFn f).get i = f i := by
  simp [Table.get, Table.ofFn]

@[simp] theorem Table.get_fill (x : α) (i : Fin n) : (Table.fill n x).get i = x := by
  simp [Table.get, Table.fill]

@[simp] theorem Table.get_modify_self (t : Table n α) (i : Fin n) (f : α → α) : (t.modify i f).get i = f (t.get i) := by
  simp [Table.modify]

theorem Table.get_modify_ne (t : Table n α) {i j : Fin n} (f : α → α) (h : j ≠ i) :
    (t.modify i f).get j = t.get j := Table.get_set_ne t _ h

theorem Table.get_modify (t : Table n α) (i j : Fin n) (f : α → α) :
    (t.modify i f).get j = if j = i then f (t.get j) else t.get j := by
  by_cases h : j = i
  · subst h; simp
  · simp [h, Table.get_modify_ne]

/-- Two tables with equal cells at every index are equal. -/
theorem Table.ext_get {a b : Table n α} (h : ∀ i, a.get i = b.get i) : a = b := by
  apply Table.ext_cells
  apply List.ext_getElem
  · rw [a.size, b.size]
  · intro k h1 h2
    have := h ⟨k, by rw [← a.size]; exact h1⟩
    simpa [Table.get] using this

theorem Table.mem_cells {t : Table n α} {x : α} : x ∈ t.cells ↔ ∃ i, t.get i = x := by
  constructor
  · intro h
    obtain ⟨k, hk, rfl⟩ := List.getElem_of_mem h
    exact ⟨⟨k, by rw [← t.size]; exact hk⟩, rfl⟩
  · rintro ⟨i, rfl⟩
    exact List.getElem_mem _

end Sys2Proof
end

