-- ==== Sys2Proof/Laws/Annunciation.lean ====
section
/-! SUPPORT. The Annunciator's shared operations: what each changes, and that the line always carries the tone its
source calls for (R104). -/

namespace Sys2Proof.Machine

/-- Forming the line anew changes the tone alone (R104). -/
theorem State.reformTone_eq (s : State) : ∃ x, s.reformTone = s.setAnn { s.ann with tone := x } := by
  unfold State.reformTone
  split
  · exact ⟨_, rfl⟩
  · split
    · split
      · exact ⟨s.ann.tone, rfl⟩
      · exact ⟨_, rfl⟩
    · exact ⟨_, rfl⟩

/-- The source of the line does not depend on the tone that sounds (R104). -/
theorem State.lineSource_setTone (s : State) (x : Option Tone) :
    (s.setAnn { s.ann with tone := x }).lineSource = s.lineSource := rfl

/-- R104: after the line is formed anew it carries the tone that its source calls for, and no other. -/
theorem State.reformTone_toneSound (s : State) : s.reformTone.toneSound := by
  unfold State.toneSound State.reformTone
  split
  · next h => simp [State.lineSource_setTone, h]
  · next src h =>
    split
    · next t ht =>
      split
      · next e => rw [ht, h]; simp [e]
      · simp [State.lineSource_setTone, h, AnnunciatorItem.period]
    · simp [State.lineSource_setTone, h, AnnunciatorItem.period]

/-- Forming the pattern in use anew keeps the position or sets it to 0 (R103). -/
theorem State.reformPattern_cases (s before : State) :
    s.reformPattern before = s ∨ s.reformPattern before = s.setAnn { s.ann with hornPos := 0, hornReset := true } := by
  unfold State.reformPattern
  split
  · exact .inr rfl
  · exact .inl rfl

@[simp] theorem State.reformTone_pending (s : State) : (s.reformTone).pending = s.pending := by
  obtain ⟨x, e⟩ := s.reformTone_eq; rw [e]; rfl
@[simp] theorem State.reformTone_time (s : State) : (s.reformTone).time = s.time := by
  obtain ⟨x, e⟩ := s.reformTone_eq; rw [e]; rfl
@[simp] theorem State.reformTone_tracker (s : State) : (s.reformTone).tracker = s.tracker := by
  obtain ⟨x, e⟩ := s.reformTone_eq; rw [e]; rfl
@[simp] theorem State.reformTone_scanner (s : State) : (s.reformTone).scanner = s.scanner := by
  obtain ⟨x, e⟩ := s.reformTone_eq; rw [e]; rfl
@[simp] theorem State.reformTone_cond (s : State) : (s.reformTone).cond = s.cond := by
  obtain ⟨x, e⟩ := s.reformTone_eq; rw [e]; rfl
@[simp] theorem State.reformTone_slots (s : State) : (s.reformTone).slots = s.slots := by
  obtain ⟨x, e⟩ := s.reformTone_eq; rw [e]; rfl
@[simp] theorem State.reformTone_capture (s : State) : (s.reformTone).capture = s.capture := by
  obtain ⟨x, e⟩ := s.reformTone_eq; rw [e]; rfl
@[simp] theorem State.reformTone_store (s : State) : (s.reformTone).store = s.store := by
  obtain ⟨x, e⟩ := s.reformTone_eq; rw [e]; rfl
@[simp] theorem State.reformTone_link (s : State) : (s.reformTone).link = s.link := by
  obtain ⟨x, e⟩ := s.reformTone_eq; rw [e]; rfl
@[simp] theorem State.reformTone_notices (s : State) : (s.reformTone).notices = s.notices := by
  obtain ⟨x, e⟩ := s.reformTone_eq; rw [e]; rfl
@[simp] theorem State.reformTone_flight (s : State) : (s.reformTone).flight = s.flight := by
  obtain ⟨x, e⟩ := s.reformTone_eq; rw [e]; rfl
@[simp] theorem State.reformPattern_pending (s before : State) : (s.reformPattern before).pending = s.pending := by
  rcases State.reformPattern_cases s before with e | e <;> rw [e]; rfl
@[simp] theorem State.reformPattern_time (s before : State) : (s.reformPattern before).time = s.time := by
  rcases State.reformPattern_cases s before with e | e <;> rw [e]; rfl
@[simp] theorem State.reformPattern_tracker (s before : State) : (s.reformPattern before).tracker = s.tracker := by
  rcases State.reformPattern_cases s before with e | e <;> rw [e]; rfl
@[simp] theorem State.reformPattern_scanner (s before : State) : (s.reformPattern before).scanner = s.scanner := by
  rcases State.reformPattern_cases s before with e | e <;> rw [e]; rfl
@[simp] theorem State.reformPattern_cond (s before : State) : (s.reformPattern before).cond = s.cond := by
  rcases State.reformPattern_cases s before with e | e <;> rw [e]; rfl
@[simp] theorem State.reformPattern_slots (s before : State) : (s.reformPattern before).slots = s.slots := by
  rcases State.reformPattern_cases s before with e | e <;> rw [e]; rfl
@[simp] theorem State.reformPattern_capture (s before : State) : (s.reformPattern before).capture = s.capture := by
  rcases State.reformPattern_cases s before with e | e <;> rw [e]; rfl
@[simp] theorem State.reformPattern_store (s before : State) : (s.reformPattern before).store = s.store := by
  rcases State.reformPattern_cases s before with e | e <;> rw [e]; rfl
@[simp] theorem State.reformPattern_link (s before : State) : (s.reformPattern before).link = s.link := by
  rcases State.reformPattern_cases s before with e | e <;> rw [e]; rfl
@[simp] theorem State.reformPattern_notices (s before : State) : (s.reformPattern before).notices = s.notices := by
  rcases State.reformPattern_cases s before with e | e <;> rw [e]; rfl
@[simp] theorem State.reformPattern_flight (s before : State) : (s.reformPattern before).flight = s.flight := by
  rcases State.reformPattern_cases s before with e | e <;> rw [e]; rfl
@[simp] theorem State.reformHorn_pending (s before : State) : (s.reformHorn before).pending = s.pending := by
  unfold State.reformHorn; simp
@[simp] theorem State.reformHorn_time (s before : State) : (s.reformHorn before).time = s.time := by
  unfold State.reformHorn; simp
@[simp] theorem State.reformHorn_tracker (s before : State) : (s.reformHorn before).tracker = s.tracker := by
  unfold State.reformHorn; simp
@[simp] theorem State.reformHorn_scanner (s before : State) : (s.reformHorn before).scanner = s.scanner := by
  unfold State.reformHorn; simp
@[simp] theorem State.reformHorn_cond (s before : State) : (s.reformHorn before).cond = s.cond := by
  unfold State.reformHorn; simp
@[simp] theorem State.reformHorn_slots (s before : State) : (s.reformHorn before).slots = s.slots := by
  unfold State.reformHorn; simp
@[simp] theorem State.reformHorn_capture (s before : State) : (s.reformHorn before).capture = s.capture := by
  unfold State.reformHorn; simp
@[simp] theorem State.reformHorn_store (s before : State) : (s.reformHorn before).store = s.store := by
  unfold State.reformHorn; simp
@[simp] theorem State.reformHorn_link (s before : State) : (s.reformHorn before).link = s.link := by
  unfold State.reformHorn; simp
@[simp] theorem State.reformHorn_notices (s before : State) : (s.reformHorn before).notices = s.notices := by
  unfold State.reformHorn; simp
@[simp] theorem State.reformHorn_flight (s before : State) : (s.reformHorn before).flight = s.flight := by
  unfold State.reformHorn; simp
@[simp] theorem State.putSignal_pending (t : Fin 8) (r : Signal × Bool) (s : State) : (s.putSignal t r).pending = s.pending := by
  unfold State.putSignal; split <;> rfl
@[simp] theorem State.putSignal_time (t : Fin 8) (r : Signal × Bool) (s : State) : (s.putSignal t r).time = s.time := by
  unfold State.putSignal; split <;> rfl
@[simp] theorem State.putSignal_tracker (t : Fin 8) (r : Signal × Bool) (s : State) : (s.putSignal t r).tracker = s.tracker := by
  unfold State.putSignal; split <;> rfl
@[simp] theorem State.putSignal_scanner (t : Fin 8) (r : Signal × Bool) (s : State) : (s.putSignal t r).scanner = s.scanner := by
  unfold State.putSignal; split <;> rfl
@[simp] theorem State.putSignal_cond (t : Fin 8) (r : Signal × Bool) (s : State) : (s.putSignal t r).cond = s.cond := by
  unfold State.putSignal; split <;> rfl
@[simp] theorem State.putSignal_capture (t : Fin 8) (r : Signal × Bool) (s : State) : (s.putSignal t r).capture = s.capture := by
  unfold State.putSignal; split <;> rfl
@[simp] theorem State.putSignal_store (t : Fin 8) (r : Signal × Bool) (s : State) : (s.putSignal t r).store = s.store := by
  unfold State.putSignal; split <;> rfl
@[simp] theorem State.putSignal_link (t : Fin 8) (r : Signal × Bool) (s : State) : (s.putSignal t r).link = s.link := by
  unfold State.putSignal; split <;> rfl
@[simp] theorem State.putSignal_notices (t : Fin 8) (r : Signal × Bool) (s : State) : (s.putSignal t r).notices = s.notices := by
  unfold State.putSignal; split <;> rfl
@[simp] theorem State.putSignal_flight (t : Fin 8) (r : Signal × Bool) (s : State) : (s.putSignal t r).flight = s.flight := by
  unfold State.putSignal; split <;> rfl

/-- One slot's annunciation record is replaced, and nothing else of any slot (R92 to R95). -/
@[simp] theorem State.putSignal_slots (t : Fin 8) (r : Signal × Bool) (s : State) :
    (s.putSignal t r).slots = s.slots.modify t fun x => { x with signal := r.1 } := by
  unfold State.putSignal; split <;> rfl

/-- The Annunciator's part of a level change leaves the line sound (R104). -/
theorem State.reformHorn_toneSound (s before : State) : (s.reformHorn before).toneSound :=
  State.reformTone_toneSound _

@[simp] theorem State.annunciate_pending (t : Fin 8) (old new : Level) (s : State) : (s.annunciate t old new).pending = s.pending := by
  unfold State.annunciate; simp
@[simp] theorem State.annunciate_time (t : Fin 8) (old new : Level) (s : State) : (s.annunciate t old new).time = s.time := by
  unfold State.annunciate; simp
@[simp] theorem State.annunciate_tracker (t : Fin 8) (old new : Level) (s : State) : (s.annunciate t old new).tracker = s.tracker := by
  unfold State.annunciate; simp
@[simp] theorem State.annunciate_scanner (t : Fin 8) (old new : Level) (s : State) : (s.annunciate t old new).scanner = s.scanner := by
  unfold State.annunciate; simp
@[simp] theorem State.annunciate_cond (t : Fin 8) (old new : Level) (s : State) : (s.annunciate t old new).cond = s.cond := by
  unfold State.annunciate; simp
@[simp] theorem State.annunciate_capture (t : Fin 8) (old new : Level) (s : State) : (s.annunciate t old new).capture = s.capture := by
  unfold State.annunciate; simp
@[simp] theorem State.annunciate_store (t : Fin 8) (old new : Level) (s : State) : (s.annunciate t old new).store = s.store := by
  unfold State.annunciate; simp
@[simp] theorem State.annunciate_link (t : Fin 8) (old new : Level) (s : State) : (s.annunciate t old new).link = s.link := by
  unfold State.annunciate; simp
@[simp] theorem State.annunciate_notices (t : Fin 8) (old new : Level) (s : State) : (s.annunciate t old new).notices = s.notices := by
  unfold State.annunciate; simp
@[simp] theorem State.annunciate_flight (t : Fin 8) (old new : Level) (s : State) : (s.annunciate t old new).flight = s.flight := by
  unfold State.annunciate; simp
@[simp] theorem State.acknowledgeSlots_pending (src : AckSource) (sel : Fin 8 → Bool) (s : State) : (s.acknowledgeSlots src sel).pending = s.pending := by
  unfold State.acknowledgeSlots; simp only []; repeat' split
  all_goals simp
@[simp] theorem State.acknowledgeSlots_time (src : AckSource) (sel : Fin 8 → Bool) (s : State) : (s.acknowledgeSlots src sel).time = s.time := by
  unfold State.acknowledgeSlots; simp only []; repeat' split
  all_goals simp
@[simp] theorem State.acknowledgeSlots_tracker (src : AckSource) (sel : Fin 8 → Bool) (s : State) : (s.acknowledgeSlots src sel).tracker = s.tracker := by
  unfold State.acknowledgeSlots; simp only []; repeat' split
  all_goals simp
@[simp] theorem State.acknowledgeSlots_scanner (src : AckSource) (sel : Fin 8 → Bool) (s : State) : (s.acknowledgeSlots src sel).scanner = s.scanner := by
  unfold State.acknowledgeSlots; simp only []; repeat' split
  all_goals simp
@[simp] theorem State.acknowledgeSlots_cond (src : AckSource) (sel : Fin 8 → Bool) (s : State) : (s.acknowledgeSlots src sel).cond = s.cond := by
  unfold State.acknowledgeSlots; simp only []; repeat' split
  all_goals simp
@[simp] theorem State.acknowledgeSlots_capture (src : AckSource) (sel : Fin 8 → Bool) (s : State) : (s.acknowledgeSlots src sel).capture = s.capture := by
  unfold State.acknowledgeSlots; simp only []; repeat' split
  all_goals simp
@[simp] theorem State.acknowledgeSlots_store (src : AckSource) (sel : Fin 8 → Bool) (s : State) : (s.acknowledgeSlots src sel).store = s.store := by
  unfold State.acknowledgeSlots; simp only []; repeat' split
  all_goals simp
@[simp] theorem State.acknowledgeSlots_link (src : AckSource) (sel : Fin 8 → Bool) (s : State) : (s.acknowledgeSlots src sel).link = s.link := by
  unfold State.acknowledgeSlots; simp only []; repeat' split
  all_goals simp
@[simp] theorem State.acknowledgeSlots_flight (src : AckSource) (sel : Fin 8 → Bool) (s : State) : (s.acknowledgeSlots src sel).flight = s.flight := by
  unfold State.acknowledgeSlots; simp only []; repeat' split
  all_goals simp

/-- An acknowledgement acts on the slots it names by their state and on no other (R96, R97, R100). -/
theorem State.acknowledgeSlots_slot (src : AckSource) (sel : Fin 8 → Bool) (s : State) (t : Fin 8) :
    (s.acknowledgeSlots src sel).slots.get t =
      if sel t then { (s.slots.get t) with
        signal := (s.slots.get t).signal.acknowledge s.applied.general.annunciateAt (s.heardLevel t) }
      else s.slots.get t := by
  unfold State.acknowledgeSlots
  simp only []
  split
  · split <;> simp
  · next h =>
    split
    · next hs =>
      have hc : (s.slots.get t).signal.ackChanges = false := by
        by_contra hne
        apply h
        rw [List.any_eq_true]
        refine ⟨true, ?_, rfl⟩
        rw [Table.mem_cells]
        refine ⟨t, ?_⟩
        simp only [State.ackSet, Table.get_ofFn, hs, Bool.true_and]
        simpa using hne
      have : (s.slots.get t).signal.acknowledge s.applied.general.annunciateAt (s.heardLevel t)
          = (s.slots.get t).signal := by
        unfold Signal.ackChanges at hc
        unfold Signal.acknowledge
        split at hc <;> simp_all
      rw [this]
    · rfl
/-- While no level change of a slot waits for the Annunciator, it has the live level (R85). -/
theorem State.heardLevel_of_none (s : State) (t : Fin 8) (h : s.flight.changeOf t = none) :
    s.heardLevel t = (s.slots.get t).grade.level := by
  simp [State.heardLevel, h]
/-- While one waits, it has the level before it (R99). -/
theorem State.heardLevel_of_some (s : State) (t : Fin 8) (h : LevelChange) (e : s.flight.changeOf t = some h) :
    s.heardLevel t = h.old := by
  simp [State.heardLevel, e]
@[simp] theorem State.hearChange_pending (t : Fin 8) (s : State) : (s.hearChange t).pending = s.pending := by
  unfold State.hearChange; simp only []; repeat' split
  all_goals simp
@[simp] theorem State.hearChange_time (t : Fin 8) (s : State) : (s.hearChange t).time = s.time := by
  unfold State.hearChange; simp only []; repeat' split
  all_goals simp
@[simp] theorem State.hearChange_tracker (t : Fin 8) (s : State) : (s.hearChange t).tracker = s.tracker := by
  unfold State.hearChange; simp only []; repeat' split
  all_goals simp
@[simp] theorem State.hearChange_scanner (t : Fin 8) (s : State) : (s.hearChange t).scanner = s.scanner := by
  unfold State.hearChange; simp only []; repeat' split
  all_goals simp
@[simp] theorem State.hearChange_cond (t : Fin 8) (s : State) : (s.hearChange t).cond = s.cond := by
  unfold State.hearChange; simp only []; repeat' split
  all_goals simp
@[simp] theorem State.hearChange_capture (t : Fin 8) (s : State) : (s.hearChange t).capture = s.capture := by
  unfold State.hearChange; simp only []; repeat' split
  all_goals simp
@[simp] theorem State.hearChange_store (t : Fin 8) (s : State) : (s.hearChange t).store = s.store := by
  unfold State.hearChange; simp only []; repeat' split
  all_goals simp
@[simp] theorem State.hearChange_link (t : Fin 8) (s : State) : (s.hearChange t).link = s.link := by
  unfold State.hearChange; simp only []; repeat' split
  all_goals simp
@[simp] theorem State.hearChange_notices (t : Fin 8) (s : State) : (s.hearChange t).notices = s.notices := by
  unfold State.hearChange; simp only []; repeat' split
  all_goals simp
/-- What the Annunciator's taking of a level change can do: the change no longer waits; and the slot, if it is defined
and had one, is annunciated on it (R85, R92 to R94). -/
theorem State.hearChange_cases (t : Fin 8) (s : State) :
    let s1 := s.setFlight { s.flight with changes := s.flight.changes.filter fun h => h.slot ≠ t }
    (s.hearChange t = s1 ∧ (s.flight.changeOf t = none ∨ s.isDefined t = false)) ∨
    ∃ h, s.flight.changeOf t = some h ∧ s.isDefined t = true ∧ s.hearChange t = s1.annunciate t h.old h.new := by
  simp only [State.hearChange]
  cases e : s.flight.changeOf t with
  | none => exact .inl ⟨rfl, .inl rfl⟩
  | some h =>
    cases d : s.isDefined t with
    | false => exact .inl ⟨by simp, .inr rfl⟩
    | true => exact .inr ⟨h, rfl, rfl, by simp⟩

end Sys2Proof.Machine
end

