-- ==== Sys2Proof/Laws/Requests.lean ====
section
/-! SUPPORT. What becomes of a request: every outcome of `State.serve` in one lemma each (R156 to R161). -/

namespace Sys2Proof.Machine

/-- The bytes of a reply frame do not depend on anything but its parts and the flags (R152, R153, R161). -/
theorem Reply.frame_eq (s : State) (kind tag : Byte) (status : ReplyStatus) (body : List Byte) :
    Reply.frame { kind := kind ||| 0x80, tag := tag, status := status, body := body } (replyFlags s) =
      replyBytes s kind tag status body := rfl

/-- An answer to the request in service, in full (R159, R160, R161). -/
theorem State.answerTo_eq (s : State) (kind tag : Byte) (payload : List Byte) (st stage : Stage)
    (status : ReplyStatus) (body : List Byte) (hrdy : Bool)
    (h : s.link.service = some { kind := kind, tag := tag, payload := payload, stage := st }) :
    s.answerTo stage status body hrdy = s.replied kind tag payload stage status body hrdy := by
  unfold State.answerTo
  rw [h]
  cases hrdy <;> rfl

/-- A request standing in service is overwritten by its answer. -/
theorem State.enterService_replied (s : State) (k t : Byte) (p : List Byte) (kind tag : Byte) (payload : List Byte)
    (stage : Stage) (status : ReplyStatus) (body : List Byte) (hrdy : Bool) :
    (s.enterService k t p).replied kind tag payload stage status body hrdy =
      s.replied kind tag payload stage status body hrdy := rfl

/-- What a part that can serve makes of a request frame: it takes it. -/
theorem State.entry_taken (s : State) (kind tag : Byte) (payload : List Byte) (h : s.canServe) :
    s.entry kind tag payload = .taken := by
  unfold State.entry State.isRunning
  rw [h.1, h.2]
  rfl

/-- R158: a LENGTH that is not the kind's is refused, whatever the kind's owner. -/
theorem State.serve_short (s : State) (k : RequestKind) (owner : State → State × Answer) (tag : Byte)
    (payload : List Byte) (hrdy : Bool) (hs : s.canServe) (hl : payload.length ≠ k.length) :
    s.serve k owner tag payload hrdy = s.answered k tag payload .refusedLength [] hrdy := by
  unfold State.serve
  rw [s.entry_taken _ _ _ hs]
  simp only [if_neg hl]
  unfold State.answer
  rw [State.answerTo_eq _ k.code tag payload .entered .answered _ _ _ rfl]
  rfl

/-- R159: a request of the right length is answered with what its owner gives. -/
theorem State.serve_now (s s2 : State) (k : RequestKind) (owner : State → State × Answer) (tag : Byte)
    (payload : List Byte) (hrdy : Bool) (status : ReplyStatus) (body : List Byte) (hs : s.canServe)
    (hl : payload.length = k.length) (ho : owner (s.enterService k.code tag payload) = (s2, .now status body))
    (h2 : s2.link.service = (s.enterService k.code tag payload).link.service) :
    s.serve k owner tag payload hrdy = s2.answered k tag payload status body hrdy := by
  unfold State.serve
  rw [s.entry_taken _ _ _ hs]
  simp only [if_pos hl, ho, State.giveAnswer]
  unfold State.answer
  exact State.answerTo_eq _ k.code tag payload .entered .answered _ _ _ h2

/-- R156, R157: with another request in service the frame is dropped. -/
theorem State.serve_dropped (s : State) (k : RequestKind) (owner : State → State × Answer) (tag : Byte)
    (payload : List Byte) (hrdy : Bool) (r : Service) (hr : s.time.phase = .running) (hs : s.link.service = some r)
    (hne : r ≠ { kind := k.code, tag := tag, payload := payload, stage := .entered }) :
    s.serve k owner tag payload hrdy = s.dropFrame := by
  unfold State.serve State.entry State.isRunning
  rw [hr, hs]
  simp [hne]

/-- R1: nothing is received in STARTING. -/
theorem State.serve_starting (s : State) (k : RequestKind) (owner : State → State × Answer) (tag : Byte)
    (payload : List Byte) (hrdy : Bool) (hr : s.time.phase = .starting) :
    s.serve k owner tag payload hrdy = s := by
  unfold State.serve State.entry State.isRunning
  rw [hr]
  rfl

section
variable (s : State) (kind tag : Byte) (payload body : List Byte) (stage : Stage) (status : ReplyStatus) (hrdy : Bool)
@[simp] theorem State.replied_pending : (s.replied kind tag payload stage status body hrdy).pending = s.pending := rfl
@[simp] theorem State.replied_time : (s.replied kind tag payload stage status body hrdy).time = s.time := rfl
@[simp] theorem State.replied_tracker : (s.replied kind tag payload stage status body hrdy).tracker = s.tracker := rfl
@[simp] theorem State.replied_scanner : (s.replied kind tag payload stage status body hrdy).scanner = s.scanner := rfl
@[simp] theorem State.replied_cond : (s.replied kind tag payload stage status body hrdy).cond = s.cond := rfl
@[simp] theorem State.replied_slots : (s.replied kind tag payload stage status body hrdy).slots = s.slots := rfl
@[simp] theorem State.replied_ann : (s.replied kind tag payload stage status body hrdy).ann = s.ann := rfl
@[simp] theorem State.replied_capture : (s.replied kind tag payload stage status body hrdy).capture = s.capture := rfl
@[simp] theorem State.replied_store : (s.replied kind tag payload stage status body hrdy).store = s.store := rfl
@[simp] theorem State.replied_notices : (s.replied kind tag payload stage status body hrdy).notices = s.notices := rfl
@[simp] theorem State.replied_flight : (s.replied kind tag payload stage status body hrdy).flight = s.flight := rfl

/-- An answer touches the link alone (R159, R160). -/
theorem State.answerTo_cases : s.answerTo stage status body hrdy = s ∨
    ∃ x, s.answerTo stage status body hrdy = s.setLink x := by
  unfold State.answerTo State.replyReady State.startReply
  split
  · exact .inl rfl
  · right; split <;> exact ⟨_, rfl⟩
@[simp] theorem State.answer_pending : (s.answer status body hrdy).pending = s.pending := by
  unfold State.answer
  rcases s.answerTo_cases body .answered status hrdy with e | ⟨x, e⟩ <;> rw [e]; rfl
@[simp] theorem State.answer_time : (s.answer status body hrdy).time = s.time := by
  unfold State.answer
  rcases s.answerTo_cases body .answered status hrdy with e | ⟨x, e⟩ <;> rw [e]; rfl
@[simp] theorem State.answer_tracker : (s.answer status body hrdy).tracker = s.tracker := by
  unfold State.answer
  rcases s.answerTo_cases body .answered status hrdy with e | ⟨x, e⟩ <;> rw [e]; rfl
@[simp] theorem State.answer_scanner : (s.answer status body hrdy).scanner = s.scanner := by
  unfold State.answer
  rcases s.answerTo_cases body .answered status hrdy with e | ⟨x, e⟩ <;> rw [e]; rfl
@[simp] theorem State.answer_cond : (s.answer status body hrdy).cond = s.cond := by
  unfold State.answer
  rcases s.answerTo_cases body .answered status hrdy with e | ⟨x, e⟩ <;> rw [e]; rfl
@[simp] theorem State.answer_slots : (s.answer status body hrdy).slots = s.slots := by
  unfold State.answer
  rcases s.answerTo_cases body .answered status hrdy with e | ⟨x, e⟩ <;> rw [e]; rfl
@[simp] theorem State.answer_ann : (s.answer status body hrdy).ann = s.ann := by
  unfold State.answer
  rcases s.answerTo_cases body .answered status hrdy with e | ⟨x, e⟩ <;> rw [e]; rfl
@[simp] theorem State.answer_capture : (s.answer status body hrdy).capture = s.capture := by
  unfold State.answer
  rcases s.answerTo_cases body .answered status hrdy with e | ⟨x, e⟩ <;> rw [e]; rfl
@[simp] theorem State.answer_store : (s.answer status body hrdy).store = s.store := by
  unfold State.answer
  rcases s.answerTo_cases body .answered status hrdy with e | ⟨x, e⟩ <;> rw [e]; rfl
@[simp] theorem State.answer_notices : (s.answer status body hrdy).notices = s.notices := by
  unfold State.answer
  rcases s.answerTo_cases body .answered status hrdy with e | ⟨x, e⟩ <;> rw [e]; rfl
@[simp] theorem State.answer_flight : (s.answer status body hrdy).flight = s.flight := by
  unfold State.answer
  rcases s.answerTo_cases body .answered status hrdy with e | ⟨x, e⟩ <;> rw [e]; rfl
end

end Sys2Proof.Machine
end

