-- ==== Sys2Proof/Laws/CaptureMemory.lean ====
section
/-! SUPPORT. Capture Memory's shared operations: everything a trigger and a completed frame can do (R115 to R122,
R126), and what they leave alone. -/

namespace Sys2Proof.Machine

@[simp] theorem State.takeTrigger_pending (hrdy : Bool) (s : State) (tr : Trigger) : (s.takeTrigger hrdy tr).pending = s.pending := by
  unfold State.takeTrigger; simp only []; repeat' split
  all_goals simp
@[simp] theorem State.takeTrigger_time (hrdy : Bool) (s : State) (tr : Trigger) : (s.takeTrigger hrdy tr).time = s.time := by
  unfold State.takeTrigger; simp only []; repeat' split
  all_goals simp
@[simp] theorem State.takeTrigger_tracker (hrdy : Bool) (s : State) (tr : Trigger) : (s.takeTrigger hrdy tr).tracker = s.tracker := by
  unfold State.takeTrigger; simp only []; repeat' split
  all_goals simp
@[simp] theorem State.takeTrigger_scanner (hrdy : Bool) (s : State) (tr : Trigger) : (s.takeTrigger hrdy tr).scanner = s.scanner := by
  unfold State.takeTrigger; simp only []; repeat' split
  all_goals simp
@[simp] theorem State.takeTrigger_cond (hrdy : Bool) (s : State) (tr : Trigger) : (s.takeTrigger hrdy tr).cond = s.cond := by
  unfold State.takeTrigger; simp only []; repeat' split
  all_goals simp
@[simp] theorem State.takeTrigger_slots (hrdy : Bool) (s : State) (tr : Trigger) : (s.takeTrigger hrdy tr).slots = s.slots := by
  unfold State.takeTrigger; simp only []; repeat' split
  all_goals simp
@[simp] theorem State.takeTrigger_ann (hrdy : Bool) (s : State) (tr : Trigger) : (s.takeTrigger hrdy tr).ann = s.ann := by
  unfold State.takeTrigger; simp only []; repeat' split
  all_goals simp
@[simp] theorem State.takeTrigger_store (hrdy : Bool) (s : State) (tr : Trigger) : (s.takeTrigger hrdy tr).store = s.store := by
  unfold State.takeTrigger; simp only []; repeat' split
  all_goals simp
@[simp] theorem State.takeTrigger_flight (hrdy : Bool) (s : State) (tr : Trigger) : (s.takeTrigger hrdy tr).flight = s.flight := by
  unfold State.takeTrigger; simp only []; repeat' split
  all_goals simp
@[simp] theorem State.takeTriggers_pending (hrdy : Bool) (trs : List Trigger) : ∀ s : State,
    (s.takeTriggers hrdy trs).pending = s.pending := by
  induction trs with
  | nil => intro s; rfl
  | cons tr trs ih => intro s; exact (ih (s.takeTrigger hrdy tr)).trans (State.takeTrigger_pending hrdy s tr)
@[simp] theorem State.takeTriggers_time (hrdy : Bool) (trs : List Trigger) : ∀ s : State,
    (s.takeTriggers hrdy trs).time = s.time := by
  induction trs with
  | nil => intro s; rfl
  | cons tr trs ih => intro s; exact (ih (s.takeTrigger hrdy tr)).trans (State.takeTrigger_time hrdy s tr)
@[simp] theorem State.takeTriggers_tracker (hrdy : Bool) (trs : List Trigger) : ∀ s : State,
    (s.takeTriggers hrdy trs).tracker = s.tracker := by
  induction trs with
  | nil => intro s; rfl
  | cons tr trs ih => intro s; exact (ih (s.takeTrigger hrdy tr)).trans (State.takeTrigger_tracker hrdy s tr)
@[simp] theorem State.takeTriggers_scanner (hrdy : Bool) (trs : List Trigger) : ∀ s : State,
    (s.takeTriggers hrdy trs).scanner = s.scanner := by
  induction trs with
  | nil => intro s; rfl
  | cons tr trs ih => intro s; exact (ih (s.takeTrigger hrdy tr)).trans (State.takeTrigger_scanner hrdy s tr)
@[simp] theorem State.takeTriggers_cond (hrdy : Bool) (trs : List Trigger) : ∀ s : State,
    (s.takeTriggers hrdy trs).cond = s.cond := by
  induction trs with
  | nil => intro s; rfl
  | cons tr trs ih => intro s; exact (ih (s.takeTrigger hrdy tr)).trans (State.takeTrigger_cond hrdy s tr)
@[simp] theorem State.takeTriggers_slots (hrdy : Bool) (trs : List Trigger) : ∀ s : State,
    (s.takeTriggers hrdy trs).slots = s.slots := by
  induction trs with
  | nil => intro s; rfl
  | cons tr trs ih => intro s; exact (ih (s.takeTrigger hrdy tr)).trans (State.takeTrigger_slots hrdy s tr)
@[simp] theorem State.takeTriggers_ann (hrdy : Bool) (trs : List Trigger) : ∀ s : State,
    (s.takeTriggers hrdy trs).ann = s.ann := by
  induction trs with
  | nil => intro s; rfl
  | cons tr trs ih => intro s; exact (ih (s.takeTrigger hrdy tr)).trans (State.takeTrigger_ann hrdy s tr)
@[simp] theorem State.takeTriggers_store (hrdy : Bool) (trs : List Trigger) : ∀ s : State,
    (s.takeTriggers hrdy trs).store = s.store := by
  induction trs with
  | nil => intro s; rfl
  | cons tr trs ih => intro s; exact (ih (s.takeTrigger hrdy tr)).trans (State.takeTrigger_store hrdy s tr)
@[simp] theorem State.takeTriggers_flight (hrdy : Bool) (trs : List Trigger) : ∀ s : State,
    (s.takeTriggers hrdy trs).flight = s.flight := by
  induction trs with
  | nil => intro s; rfl
  | cons tr trs ih => intro s; exact (ih (s.takeTrigger hrdy tr)).trans (State.takeTrigger_flight hrdy s tr)
@[simp] theorem State.takeFrame_pending (hrdy : Bool) (s : State) : (s.takeFrame hrdy).pending = s.pending := by
  unfold State.takeFrame; simp only []; split
  all_goals simp
@[simp] theorem State.takeFrame_time (hrdy : Bool) (s : State) : (s.takeFrame hrdy).time = s.time := by
  unfold State.takeFrame; simp only []; split
  all_goals simp
@[simp] theorem State.takeFrame_tracker (hrdy : Bool) (s : State) : (s.takeFrame hrdy).tracker = s.tracker := by
  unfold State.takeFrame; simp only []; split
  all_goals simp
@[simp] theorem State.takeFrame_scanner (hrdy : Bool) (s : State) : (s.takeFrame hrdy).scanner = s.scanner := by
  unfold State.takeFrame; simp only []; split
  all_goals simp
@[simp] theorem State.takeFrame_cond (hrdy : Bool) (s : State) : (s.takeFrame hrdy).cond = s.cond := by
  unfold State.takeFrame; simp only []; split
  all_goals simp
@[simp] theorem State.takeFrame_slots (hrdy : Bool) (s : State) : (s.takeFrame hrdy).slots = s.slots := by
  unfold State.takeFrame; simp only []; split
  all_goals simp
@[simp] theorem State.takeFrame_ann (hrdy : Bool) (s : State) : (s.takeFrame hrdy).ann = s.ann := by
  unfold State.takeFrame; simp only []; split
  all_goals simp
@[simp] theorem State.takeFrame_store (hrdy : Bool) (s : State) : (s.takeFrame hrdy).store = s.store := by
  unfold State.takeFrame; simp only []; split
  all_goals simp
@[simp] theorem State.takeFrame_flight (hrdy : Bool) (s : State) : (s.takeFrame hrdy).flight = s.flight := by
  unfold State.takeFrame; simp only []; split
  all_goals simp

/-- The four states in which a trigger can find Capture Memory (R120 to R122, R126). -/
theorem State.takeTrigger_cases (hrdy : Bool) (s : State) (tr : Trigger) :
    (s.capture.state = .armed ∧ s.capture.holdPending = false ∧
      s.takeTrigger hrdy tr = s.setCapture (s.capture.trigger s.applied.general.preDepth tr)) ∨
    (s.capture.state = .armed ∧ s.capture.holdPending = true ∧
      s.takeTrigger hrdy tr =
        (s.setCapture { s.capture.trigger s.applied.general.preDepth tr with holdPending := false }).answer
          .busy [] hrdy) ∨
    (s.capture.state = .held ∧
      s.takeTrigger hrdy tr =
        (s.setCapture (s.capture.trigger s.applied.general.preDepth tr)).notify (.holdRevoked tr.cause)) ∨
    ((s.capture.state = .triggered ∨ s.capture.state = .frozen) ∧ s.capture.missReported = true ∧
      s.takeTrigger hrdy tr = s.setCapture s.capture.miss) ∨
    ((s.capture.state = .triggered ∨ s.capture.state = .frozen) ∧ s.capture.missReported = false ∧
      s.takeTrigger hrdy tr = (s.setCapture s.capture.miss).notify (.captureMissed tr.cause)) := by
  unfold State.takeTrigger
  cases hst : s.capture.state <;> cases hp : s.capture.holdPending <;> cases hm : s.capture.missReported <;>
    simp_all [State.setCapture, Capture.trigger]

/-- What a completed frame does to Capture Memory, by its state (R115 to R118). -/
theorem Capture.takeFrame_cases (c : Capture) :
    (c.current = none ∧ c.takeFrame = c) ∨
    ∃ f, c.current = some f ∧
      ((f.kept = false ∧ c.takeFrame = { c with current := none }) ∨
       (f.kept = true ∧ c.state = .armed ∧ c.takeFrame = ({ c with current := none } : Capture).write f.frame) ∨
       (f.kept = true ∧ c.state = .triggered ∧ c.takeFrame = ({ c with current := none } : Capture).append f.frame) ∨
       (f.kept = true ∧ (c.state = .held ∨ c.state = .frozen) ∧ c.takeFrame = { c with current := none })) := by
  unfold Capture.takeFrame
  cases hc : c.current with
  | none => exact .inl ⟨rfl, rfl⟩
  | some f =>
    refine .inr ⟨f, rfl, ?_⟩
    cases hk : f.kept <;> cases hst : c.state <;> simp [hk]

end Sys2Proof.Machine
end

