-- ==== Sys2Proof/Laws/Completion.lean ====
section
/-! SUPPORT. The parts of a completion: which blocks each touches (R18, R25, R49). -/

namespace Sys2Proof.Machine

@[simp] theorem State.levelChange_pending (t : Fin 8) (old : Level) (g : Grade) (s : State) : (s.levelChange t old g).pending = s.pending := by
  simp [State.levelChange]
@[simp] theorem State.levelChange_time (t : Fin 8) (old : Level) (g : Grade) (s : State) : (s.levelChange t old g).time = s.time := by
  simp [State.levelChange]
@[simp] theorem State.levelChange_tracker (t : Fin 8) (old : Level) (g : Grade) (s : State) : (s.levelChange t old g).tracker = s.tracker := by
  simp [State.levelChange]
@[simp] theorem State.levelChange_scanner (t : Fin 8) (old : Level) (g : Grade) (s : State) : (s.levelChange t old g).scanner = s.scanner := by
  simp [State.levelChange]
@[simp] theorem State.levelChange_cond (t : Fin 8) (old : Level) (g : Grade) (s : State) : (s.levelChange t old g).cond = s.cond := by
  simp [State.levelChange]
@[simp] theorem State.levelChange_capture (t : Fin 8) (old : Level) (g : Grade) (s : State) : (s.levelChange t old g).capture = s.capture := by
  simp [State.levelChange]
@[simp] theorem State.levelChange_store (t : Fin 8) (old : Level) (g : Grade) (s : State) : (s.levelChange t old g).store = s.store := by
  simp [State.levelChange]
@[simp] theorem State.levelChange_link (t : Fin 8) (old : Level) (g : Grade) (s : State) : (s.levelChange t old g).link = s.link := by
  simp [State.levelChange]
@[simp] theorem State.levelChange_slots (t : Fin 8) (old : Level) (g : Grade) (s : State) : (s.levelChange t old g).slots = s.slots := by
  simp [State.levelChange]
@[simp] theorem State.levelChange_ann (t : Fin 8) (old : Level) (g : Grade) (s : State) : (s.levelChange t old g).ann = s.ann := by
  simp [State.levelChange]
@[simp] theorem State.stepThermal_pending (t : Fin 8) (s : State) : (s.stepThermal t).pending = s.pending := by
  unfold State.stepThermal; simp only []; repeat' split
  all_goals simp
@[simp] theorem State.stepThermal_time (t : Fin 8) (s : State) : (s.stepThermal t).time = s.time := by
  unfold State.stepThermal; simp only []; repeat' split
  all_goals simp
@[simp] theorem State.stepThermal_tracker (t : Fin 8) (s : State) : (s.stepThermal t).tracker = s.tracker := by
  unfold State.stepThermal; simp only []; repeat' split
  all_goals simp
@[simp] theorem State.stepThermal_scanner (t : Fin 8) (s : State) : (s.stepThermal t).scanner = s.scanner := by
  unfold State.stepThermal; simp only []; repeat' split
  all_goals simp
@[simp] theorem State.stepThermal_cond (t : Fin 8) (s : State) : (s.stepThermal t).cond = s.cond := by
  unfold State.stepThermal; simp only []; repeat' split
  all_goals simp
@[simp] theorem State.stepThermal_ann (t : Fin 8) (s : State) : (s.stepThermal t).ann = s.ann := by
  unfold State.stepThermal; simp only []; repeat' split
  all_goals simp
@[simp] theorem State.stepThermal_capture (t : Fin 8) (s : State) : (s.stepThermal t).capture = s.capture := by
  unfold State.stepThermal; simp only []; repeat' split
  all_goals simp
@[simp] theorem State.stepThermal_store (t : Fin 8) (s : State) : (s.stepThermal t).store = s.store := by
  unfold State.stepThermal; simp only []; repeat' split
  all_goals simp
@[simp] theorem State.stepThermal_link (t : Fin 8) (s : State) : (s.stepThermal t).link = s.link := by
  unfold State.stepThermal; simp only []; repeat' split
  all_goals simp
@[simp] theorem State.gradeOn_pending (t : Fin 8) (h : Handed) (s : State) : (s.gradeOn t h).pending = s.pending := by
  unfold State.gradeOn; simp only []; split
  all_goals simp
@[simp] theorem State.gradeSlot_pending (t : Fin 8) (s : State) : (s.gradeSlot t).pending = s.pending := by
  unfold State.gradeSlot; simp only []; repeat' split
  all_goals simp
@[simp] theorem State.gradeOn_time (t : Fin 8) (h : Handed) (s : State) : (s.gradeOn t h).time = s.time := by
  unfold State.gradeOn; simp only []; split
  all_goals simp
@[simp] theorem State.gradeSlot_time (t : Fin 8) (s : State) : (s.gradeSlot t).time = s.time := by
  unfold State.gradeSlot; simp only []; repeat' split
  all_goals simp
@[simp] theorem State.gradeOn_tracker (t : Fin 8) (h : Handed) (s : State) : (s.gradeOn t h).tracker = s.tracker := by
  unfold State.gradeOn; simp only []; split
  all_goals simp
@[simp] theorem State.gradeSlot_tracker (t : Fin 8) (s : State) : (s.gradeSlot t).tracker = s.tracker := by
  unfold State.gradeSlot; simp only []; repeat' split
  all_goals simp
@[simp] theorem State.gradeOn_scanner (t : Fin 8) (h : Handed) (s : State) : (s.gradeOn t h).scanner = s.scanner := by
  unfold State.gradeOn; simp only []; split
  all_goals simp
@[simp] theorem State.gradeSlot_scanner (t : Fin 8) (s : State) : (s.gradeSlot t).scanner = s.scanner := by
  unfold State.gradeSlot; simp only []; repeat' split
  all_goals simp
@[simp] theorem State.gradeOn_cond (t : Fin 8) (h : Handed) (s : State) : (s.gradeOn t h).cond = s.cond := by
  unfold State.gradeOn; simp only []; split
  all_goals simp
@[simp] theorem State.gradeSlot_cond (t : Fin 8) (s : State) : (s.gradeSlot t).cond = s.cond := by
  unfold State.gradeSlot; simp only []; repeat' split
  all_goals simp
@[simp] theorem State.gradeOn_capture (t : Fin 8) (h : Handed) (s : State) : (s.gradeOn t h).capture = s.capture := by
  unfold State.gradeOn; simp only []; split
  all_goals simp
@[simp] theorem State.gradeSlot_capture (t : Fin 8) (s : State) : (s.gradeSlot t).capture = s.capture := by
  unfold State.gradeSlot; simp only []; repeat' split
  all_goals simp
@[simp] theorem State.gradeOn_store (t : Fin 8) (h : Handed) (s : State) : (s.gradeOn t h).store = s.store := by
  unfold State.gradeOn; simp only []; split
  all_goals simp
@[simp] theorem State.gradeSlot_store (t : Fin 8) (s : State) : (s.gradeSlot t).store = s.store := by
  unfold State.gradeSlot; simp only []; repeat' split
  all_goals simp
@[simp] theorem State.gradeOn_link (t : Fin 8) (h : Handed) (s : State) : (s.gradeOn t h).link = s.link := by
  unfold State.gradeOn; simp only []; split
  all_goals simp
@[simp] theorem State.gradeSlot_link (t : Fin 8) (s : State) : (s.gradeSlot t).link = s.link := by
  unfold State.gradeSlot; simp only []; repeat' split
  all_goals simp
@[simp] theorem State.gradeOn_ann (t : Fin 8) (h : Handed) (s : State) : (s.gradeOn t h).ann = s.ann := by
  unfold State.gradeOn; simp only []; split
  all_goals simp
@[simp] theorem State.gradeSlot_ann (t : Fin 8) (s : State) : (s.gradeSlot t).ann = s.ann := by
  unfold State.gradeSlot; simp only []; repeat' split
  all_goals simp
@[simp] theorem State.formCurrent_pending (t : Fin 8) (s : State) : (s.formCurrent t).pending = s.pending := by
  unfold State.formCurrent; split <;> rfl
@[simp] theorem State.formCurrent_time (t : Fin 8) (s : State) : (s.formCurrent t).time = s.time := by
  unfold State.formCurrent; split <;> rfl
@[simp] theorem State.formCurrent_tracker (t : Fin 8) (s : State) : (s.formCurrent t).tracker = s.tracker := by
  unfold State.formCurrent; split <;> rfl
@[simp] theorem State.formCurrent_scanner (t : Fin 8) (s : State) : (s.formCurrent t).scanner = s.scanner := by
  unfold State.formCurrent; split <;> rfl
@[simp] theorem State.formCurrent_cond (t : Fin 8) (s : State) : (s.formCurrent t).cond = s.cond := by
  unfold State.formCurrent; split <;> rfl
@[simp] theorem State.formCurrent_capture (t : Fin 8) (s : State) : (s.formCurrent t).capture = s.capture := by
  unfold State.formCurrent; split <;> rfl
@[simp] theorem State.formCurrent_store (t : Fin 8) (s : State) : (s.formCurrent t).store = s.store := by
  unfold State.formCurrent; split <;> rfl
@[simp] theorem State.formCurrent_link (t : Fin 8) (s : State) : (s.formCurrent t).link = s.link := by
  unfold State.formCurrent; split <;> rfl
@[simp] theorem State.formCurrent_ann (t : Fin 8) (s : State) : (s.formCurrent t).ann = s.ann := by
  unfold State.formCurrent; split <;> rfl
@[simp] theorem State.formCurrent_notices (t : Fin 8) (s : State) : (s.formCurrent t).notices = s.notices := by
  unfold State.formCurrent; split <;> rfl
@[simp] theorem State.formCurrent_flight (t : Fin 8) (s : State) : (s.formCurrent t).flight = s.flight := by
  unfold State.formCurrent; split <;> rfl
@[simp] theorem State.takeEntry_pending (c : Cycle) (s : State) (x : ChannelSums) : (s.takeEntry c x).pending = s.pending := by
  simp [State.takeEntry]
@[simp] theorem State.takeEntry_time (c : Cycle) (s : State) (x : ChannelSums) : (s.takeEntry c x).time = s.time := by
  simp [State.takeEntry]
@[simp] theorem State.takeEntry_tracker (c : Cycle) (s : State) (x : ChannelSums) : (s.takeEntry c x).tracker = s.tracker := by
  simp [State.takeEntry]
@[simp] theorem State.takeEntry_scanner (c : Cycle) (s : State) (x : ChannelSums) : (s.takeEntry c x).scanner = s.scanner := by
  simp [State.takeEntry]
@[simp] theorem State.takeEntry_slots (c : Cycle) (s : State) (x : ChannelSums) : (s.takeEntry c x).slots = s.slots := by
  simp [State.takeEntry]
@[simp] theorem State.takeEntry_ann (c : Cycle) (s : State) (x : ChannelSums) : (s.takeEntry c x).ann = s.ann := by
  simp [State.takeEntry]
@[simp] theorem State.takeEntry_capture (c : Cycle) (s : State) (x : ChannelSums) : (s.takeEntry c x).capture = s.capture := by
  simp [State.takeEntry]
@[simp] theorem State.takeEntry_store (c : Cycle) (s : State) (x : ChannelSums) : (s.takeEntry c x).store = s.store := by
  simp [State.takeEntry]
@[simp] theorem State.takeEntry_link (c : Cycle) (s : State) (x : ChannelSums) : (s.takeEntry c x).link = s.link := by
  simp [State.takeEntry]
@[simp] theorem State.takeEntry_flight (c : Cycle) (s : State) (x : ChannelSums) : (s.takeEntry c x).flight = s.flight := by
  simp [State.takeEntry]
@[simp] theorem State.takeVerdict_pending (c : Cycle) (s : State) : (s.takeVerdict c).pending = s.pending := by
  unfold State.takeVerdict; simp only []; repeat' split
  all_goals simp
@[simp] theorem State.takeVerdict_time (c : Cycle) (s : State) : (s.takeVerdict c).time = s.time := by
  unfold State.takeVerdict; simp only []; repeat' split
  all_goals simp
@[simp] theorem State.takeVerdict_tracker (c : Cycle) (s : State) : (s.takeVerdict c).tracker = s.tracker := by
  unfold State.takeVerdict; simp only []; repeat' split
  all_goals simp
@[simp] theorem State.takeVerdict_scanner (c : Cycle) (s : State) : (s.takeVerdict c).scanner = s.scanner := by
  unfold State.takeVerdict; simp only []; repeat' split
  all_goals simp
@[simp] theorem State.takeVerdict_slots (c : Cycle) (s : State) : (s.takeVerdict c).slots = s.slots := by
  unfold State.takeVerdict; simp only []; repeat' split
  all_goals simp
@[simp] theorem State.takeVerdict_ann (c : Cycle) (s : State) : (s.takeVerdict c).ann = s.ann := by
  unfold State.takeVerdict; simp only []; repeat' split
  all_goals simp
@[simp] theorem State.takeVerdict_capture (c : Cycle) (s : State) : (s.takeVerdict c).capture = s.capture := by
  unfold State.takeVerdict; simp only []; repeat' split
  all_goals simp
@[simp] theorem State.takeVerdict_store (c : Cycle) (s : State) : (s.takeVerdict c).store = s.store := by
  unfold State.takeVerdict; simp only []; repeat' split
  all_goals simp
@[simp] theorem State.takeVerdict_link (c : Cycle) (s : State) : (s.takeVerdict c).link = s.link := by
  unfold State.takeVerdict; simp only []; repeat' split
  all_goals simp
@[simp] theorem State.takeVerdict_flight (c : Cycle) (s : State) : (s.takeVerdict c).flight = s.flight := by
  unfold State.takeVerdict; simp only []; repeat' split
  all_goals simp
@[simp] theorem State.takeEntries_pending (c : Cycle) (xs : List ChannelSums) : ∀ s : State,
    (xs.foldl (State.takeEntry c) s).pending = s.pending := by
  induction xs with
  | nil => intro s; rfl
  | cons x xs ih => intro s; exact (ih (s.takeEntry c x)).trans (State.takeEntry_pending c s x)
@[simp] theorem State.takeEntries_time (c : Cycle) (xs : List ChannelSums) : ∀ s : State,
    (xs.foldl (State.takeEntry c) s).time = s.time := by
  induction xs with
  | nil => intro s; rfl
  | cons x xs ih => intro s; exact (ih (s.takeEntry c x)).trans (State.takeEntry_time c s x)
@[simp] theorem State.takeEntries_tracker (c : Cycle) (xs : List ChannelSums) : ∀ s : State,
    (xs.foldl (State.takeEntry c) s).tracker = s.tracker := by
  induction xs with
  | nil => intro s; rfl
  | cons x xs ih => intro s; exact (ih (s.takeEntry c x)).trans (State.takeEntry_tracker c s x)
@[simp] theorem State.takeEntries_scanner (c : Cycle) (xs : List ChannelSums) : ∀ s : State,
    (xs.foldl (State.takeEntry c) s).scanner = s.scanner := by
  induction xs with
  | nil => intro s; rfl
  | cons x xs ih => intro s; exact (ih (s.takeEntry c x)).trans (State.takeEntry_scanner c s x)
@[simp] theorem State.takeEntries_slots (c : Cycle) (xs : List ChannelSums) : ∀ s : State,
    (xs.foldl (State.takeEntry c) s).slots = s.slots := by
  induction xs with
  | nil => intro s; rfl
  | cons x xs ih => intro s; exact (ih (s.takeEntry c x)).trans (State.takeEntry_slots c s x)
@[simp] theorem State.takeEntries_ann (c : Cycle) (xs : List ChannelSums) : ∀ s : State,
    (xs.foldl (State.takeEntry c) s).ann = s.ann := by
  induction xs with
  | nil => intro s; rfl
  | cons x xs ih => intro s; exact (ih (s.takeEntry c x)).trans (State.takeEntry_ann c s x)
@[simp] theorem State.takeEntries_capture (c : Cycle) (xs : List ChannelSums) : ∀ s : State,
    (xs.foldl (State.takeEntry c) s).capture = s.capture := by
  induction xs with
  | nil => intro s; rfl
  | cons x xs ih => intro s; exact (ih (s.takeEntry c x)).trans (State.takeEntry_capture c s x)
@[simp] theorem State.takeEntries_store (c : Cycle) (xs : List ChannelSums) : ∀ s : State,
    (xs.foldl (State.takeEntry c) s).store = s.store := by
  induction xs with
  | nil => intro s; rfl
  | cons x xs ih => intro s; exact (ih (s.takeEntry c x)).trans (State.takeEntry_store c s x)
@[simp] theorem State.takeEntries_link (c : Cycle) (xs : List ChannelSums) : ∀ s : State,
    (xs.foldl (State.takeEntry c) s).link = s.link := by
  induction xs with
  | nil => intro s; rfl
  | cons x xs ih => intro s; exact (ih (s.takeEntry c x)).trans (State.takeEntry_link c s x)
@[simp] theorem State.takeEntries_flight (c : Cycle) (xs : List ChannelSums) : ∀ s : State,
    (xs.foldl (State.takeEntry c) s).flight = s.flight := by
  induction xs with
  | nil => intro s; rfl
  | cons x xs ih => intro s; exact (ih (s.takeEntry c x)).trans (State.takeEntry_flight c s x)
@[simp] theorem State.takeNextEntry_pending (s : State) : s.takeNextEntry.pending = s.pending := by
  unfold State.takeNextEntry; split <;> simp
@[simp] theorem State.takeNextEntry_time (s : State) : s.takeNextEntry.time = s.time := by
  unfold State.takeNextEntry; split <;> simp
@[simp] theorem State.takeNextEntry_tracker (s : State) : s.takeNextEntry.tracker = s.tracker := by
  unfold State.takeNextEntry; split <;> simp
@[simp] theorem State.takeNextEntry_scanner (s : State) : s.takeNextEntry.scanner = s.scanner := by
  unfold State.takeNextEntry; split <;> simp
@[simp] theorem State.takeNextEntry_slots (s : State) : s.takeNextEntry.slots = s.slots := by
  unfold State.takeNextEntry; split <;> simp
@[simp] theorem State.takeNextEntry_ann (s : State) : s.takeNextEntry.ann = s.ann := by
  unfold State.takeNextEntry; split <;> simp
@[simp] theorem State.takeNextEntry_capture (s : State) : s.takeNextEntry.capture = s.capture := by
  unfold State.takeNextEntry; split <;> simp
@[simp] theorem State.takeNextEntry_store (s : State) : s.takeNextEntry.store = s.store := by
  unfold State.takeNextEntry; split <;> simp
@[simp] theorem State.takeNextEntry_link (s : State) : s.takeNextEntry.link = s.link := by
  unfold State.takeNextEntry; split <;> simp
/-- Notices and the model's own field do not meet. -/
theorem State.notifyAll_setFlight (f : Flight) (bs : List NoticeBody) : ∀ s : State,
    (s.setFlight f).notifyAll bs = (s.notifyAll bs).setFlight f := by
  induction bs with
  | nil => intro s; rfl
  | cons b bs ih => intro s; exact ih (s.notify b)
/-- An entry and the model's own field do not meet. -/
theorem State.takeEntry_setFlight (c : Cycle) (x : ChannelSums) (f : Flight) (s : State) :
    (s.setFlight f).takeEntry c x = (s.takeEntry c x).setFlight f :=
  State.notifyAll_setFlight f _ (s.setCond _)
/-- Taking the next entry alone and then the rest is taking the record (R22). -/
theorem State.takeRecord_takeNextEntry (s : State) : s.takeNextEntry.takeRecord = s.takeRecord := by
  unfold State.takeNextEntry
  split
  · next c x rest hc he =>
    simp only [State.takeRecord, State.takeEntry_scanner, State.setFlight_scanner, hc, he,
      State.setFlight_flight, List.foldl_cons, State.takeEntry_setFlight]
    rfl
  all_goals rfl
@[simp] theorem State.takeRecord_pending (s : State) : (s.takeRecord).pending = s.pending := by
  unfold State.takeRecord; split
  · rfl
  · simp
@[simp] theorem State.takeRecord_time (s : State) : (s.takeRecord).time = s.time := by
  unfold State.takeRecord; split
  · rfl
  · simp
@[simp] theorem State.takeRecord_tracker (s : State) : (s.takeRecord).tracker = s.tracker := by
  unfold State.takeRecord; split
  · rfl
  · simp
@[simp] theorem State.takeRecord_scanner (s : State) : (s.takeRecord).scanner = s.scanner := by
  unfold State.takeRecord; split
  · rfl
  · simp
@[simp] theorem State.takeRecord_slots (s : State) : (s.takeRecord).slots = s.slots := by
  unfold State.takeRecord; split
  · rfl
  · simp
@[simp] theorem State.takeRecord_ann (s : State) : (s.takeRecord).ann = s.ann := by
  unfold State.takeRecord; split
  · rfl
  · simp
@[simp] theorem State.takeRecord_capture (s : State) : (s.takeRecord).capture = s.capture := by
  unfold State.takeRecord; split
  · rfl
  · simp
@[simp] theorem State.takeRecord_store (s : State) : (s.takeRecord).store = s.store := by
  unfold State.takeRecord; split
  · rfl
  · simp
@[simp] theorem State.takeRecord_link (s : State) : (s.takeRecord).link = s.link := by
  unfold State.takeRecord; split
  · rfl
  · simp
@[simp] theorem State.moveTracker_pending (r : Tracker × List NoticeBody) (s : State) : (s.moveTracker r).pending = s.pending := by
  unfold State.moveTracker; simp
@[simp] theorem State.moveTracker_time (r : Tracker × List NoticeBody) (s : State) : (s.moveTracker r).time = s.time := by
  unfold State.moveTracker; simp
@[simp] theorem State.moveTracker_scanner (r : Tracker × List NoticeBody) (s : State) : (s.moveTracker r).scanner = s.scanner := by
  unfold State.moveTracker; simp
@[simp] theorem State.moveTracker_cond (r : Tracker × List NoticeBody) (s : State) : (s.moveTracker r).cond = s.cond := by
  unfold State.moveTracker; simp
@[simp] theorem State.moveTracker_slots (r : Tracker × List NoticeBody) (s : State) : (s.moveTracker r).slots = s.slots := by
  unfold State.moveTracker; simp
@[simp] theorem State.moveTracker_ann (r : Tracker × List NoticeBody) (s : State) : (s.moveTracker r).ann = s.ann := by
  unfold State.moveTracker; simp
@[simp] theorem State.moveTracker_capture (r : Tracker × List NoticeBody) (s : State) : (s.moveTracker r).capture = s.capture := by
  unfold State.moveTracker; simp
@[simp] theorem State.moveTracker_store (r : Tracker × List NoticeBody) (s : State) : (s.moveTracker r).store = s.store := by
  unfold State.moveTracker; simp
@[simp] theorem State.moveTracker_link (r : Tracker × List NoticeBody) (s : State) : (s.moveTracker r).link = s.link := by
  unfold State.moveTracker; simp
@[simp] theorem State.moveTracker_flight (r : Tracker × List NoticeBody) (s : State) : (s.moveTracker r).flight = s.flight := by
  unfold State.moveTracker; simp
@[simp] theorem State.startCycle_pending (number : Count32) (g : CycleStart) (s : State) : (s.startCycle number g).pending = s.pending := by
  unfold State.startCycle; simp only []; split <;> rfl
@[simp] theorem State.startCycle_time (number : Count32) (g : CycleStart) (s : State) : (s.startCycle number g).time = s.time := by
  unfold State.startCycle; simp only []; split <;> rfl
@[simp] theorem State.startCycle_tracker (number : Count32) (g : CycleStart) (s : State) : (s.startCycle number g).tracker = s.tracker := by
  unfold State.startCycle; simp only []; split <;> rfl
@[simp] theorem State.startCycle_slots (number : Count32) (g : CycleStart) (s : State) : (s.startCycle number g).slots = s.slots := by
  unfold State.startCycle; simp only []; split <;> rfl
@[simp] theorem State.startCycle_ann (number : Count32) (g : CycleStart) (s : State) : (s.startCycle number g).ann = s.ann := by
  unfold State.startCycle; simp only []; split <;> rfl
@[simp] theorem State.startCycle_store (number : Count32) (g : CycleStart) (s : State) : (s.startCycle number g).store = s.store := by
  unfold State.startCycle; simp only []; split <;> rfl
@[simp] theorem State.startCycle_link (number : Count32) (g : CycleStart) (s : State) : (s.startCycle number g).link = s.link := by
  unfold State.startCycle; simp only []; split <;> rfl
@[simp] theorem State.startCycle_notices (number : Count32) (g : CycleStart) (s : State) : (s.startCycle number g).notices = s.notices := by
  unfold State.startCycle; simp only []; split <;> rfl
@[simp] theorem State.startCycle_flight (number : Count32) (g : CycleStart) (s : State) : (s.startCycle number g).flight = s.flight := by
  unfold State.startCycle; simp only []; split <;> rfl
@[simp] theorem State.countCompletion_pending (s : State) : s.countCompletion.pending = s.pending := by
  simp [State.countCompletion]
@[simp] theorem State.countCompletion_time (s : State) : s.countCompletion.time = s.time := by
  simp [State.countCompletion]
@[simp] theorem State.countCompletion_scanner (s : State) : s.countCompletion.scanner = s.scanner := by
  simp [State.countCompletion]
@[simp] theorem State.countCompletion_cond (s : State) : s.countCompletion.cond = s.cond := by
  simp [State.countCompletion]
@[simp] theorem State.countCompletion_slots (s : State) : s.countCompletion.slots = s.slots := by
  simp [State.countCompletion]
@[simp] theorem State.countCompletion_ann (s : State) : s.countCompletion.ann = s.ann := by
  simp [State.countCompletion]
@[simp] theorem State.countCompletion_capture (s : State) : s.countCompletion.capture = s.capture := by
  simp [State.countCompletion]
@[simp] theorem State.countCompletion_store (s : State) : s.countCompletion.store = s.store := by
  simp [State.countCompletion]
@[simp] theorem State.countCompletion_link (s : State) : s.countCompletion.link = s.link := by
  simp [State.countCompletion]
/-- What the tracker's part can do: it counts, tells its notices, and gives the start that its new state calls for
(R8, R10, R11). -/
theorem State.countCompletion_eq (s : State) :
    s.countCompletion = (s.moveTracker s.tracker.countCompletion).setFlight
      { s.flight with given := some (s.tracker.countCompletion.1.cycleStart s.time.fnom) } := by
  simp [State.countCompletion, State.moveTracker]
@[simp] theorem State.startNext_pending (s : State) : s.startNext.pending = s.pending := by
  unfold State.startNext; split <;> simp
@[simp] theorem State.startNext_time (s : State) : s.startNext.time = s.time := by
  unfold State.startNext; split <;> simp
@[simp] theorem State.startNext_tracker (s : State) : s.startNext.tracker = s.tracker := by
  unfold State.startNext; split <;> simp
@[simp] theorem State.startNext_slots (s : State) : s.startNext.slots = s.slots := by
  unfold State.startNext; split <;> simp
@[simp] theorem State.startNext_ann (s : State) : s.startNext.ann = s.ann := by
  unfold State.startNext; split <;> simp
@[simp] theorem State.startNext_store (s : State) : s.startNext.store = s.store := by
  unfold State.startNext; split <;> simp
@[simp] theorem State.startNext_link (s : State) : s.startNext.link = s.link := by
  unfold State.startNext; split <;> simp
@[simp] theorem State.startNext_notices (s : State) : s.startNext.notices = s.notices := by
  unfold State.startNext; split <;> simp
/-- What the scanner's part can do: without a given start nothing, and otherwise the next cycle starts on it, whatever
the tracker's state is by then (R11, R12, R18). -/
theorem State.startNext_cases (s : State) :
    (s.flight.given = none ∧ s.startNext = s) ∨
    ∃ g, s.flight.given = some g ∧ s.startNext.flight = { s.flight with given := none } ∧
      s.startNext.scanner =
        { cycleNumber := s.scanner.cycleNumber + 1
          cycle := some (.fresh (s.scanner.cycleNumber + 1) g.ps g.degraded s.applied.enabledChannels
            (s.cond.selfCheck == .scheduled)) } := by
  unfold State.startNext
  cases h : s.flight.given with
  | none => exact .inl ⟨rfl, rfl⟩
  | some g =>
    refine .inr ⟨g, rfl, by simp, ?_⟩
    unfold State.startCycle; simp only []; split <;> rfl

end Sys2Proof.Machine
end

