-- ==== Sys2Proof/WellFormed.lean ====
section
/-! DEFINITION. What the operands of a command must be: a payload fits its LENGTH byte (R151), and an unknown
request kind is one that section 11.3 does not list (R158). Every other operand is well formed by its type. -/

namespace Sys2Proof

/-- LENGTH is within 0..120 (R151). -/
def payloadFits (payload : List Byte) : Bool := payload.length ≤ 120

/-- Well-formedness of a command. -/
def Instr.wellFormed : Instr → Bool
  | .requestUnknownKind kind _ payload _ => !Machine.knownKind kind && payloadFits payload
  | .status _ p _ | .readTracker _ p _ | .readChannel _ p _ | .readTransformer _ p _ | .fetchNotice _ p _
  | .setGeneral _ p _ | .setChannel _ p _ | .setTransformer _ p _ | .setCurve _ p _ | .setMonitors _ p _
  | .setContact _ p _ | .setAnnunciator _ p _ | .readSettings _ p _ | .commit _ p _ | .discard _ p _
  | .acknowledge _ p _ | .silence _ p _ | .clearExposure _ p _ | .presetThermal _ p _ | .selfCheck _ p _
  | .captureTrigger _ p _ | .captureHold _ p _ | .captureRelease _ p _ | .captureRead _ p _ | .captureInfo _ p _
  | .restart _ p _ => payloadFits p
  | .powerOnReset _ _ | .startingEnd | .zrefRisingCrossing | .missingCrossingExpiry | .sampleSlot
  | .conversionComplete _ | .cycleCompletion _ _ _ | .epochCompletion _ _ _ | .beatExpiry _ | .byteTaken _ _ _
  | .interByteExpiry | .frameDropped | .hrdyAsserted | .replySent | .tonePeriod => true

end Sys2Proof
end

