-- ==== Sys2Proof/Tests/Slice0.lean ====
section
/-! SUPPORT. Tests of the model against the manual's worked examples and tables (each names its source), and a
witness for the hypotheses of each obligation. -/

namespace Sys2Proof.Tests

open Sys2Proof Sys2Proof.Machine

/-! ## Helpers: small states -/

/-- What the command leaves. -/
def after (c : Instr) (s : State) : State :=
  match exec c s with
  | .next t => t
  | .fault _ | .refused _ => s

/-- The reply that waits for HRDY, if one does. -/
def waiting (s : State) : Option (ReplyStatus × List Byte) :=
  match s.link.tx with
  | .waitHrdy r => some (r.status, r.body)
  | .idle | .sending _ => none

/-- RUNNING, all else as after power-on reset. -/
def idle : State := { State.reset with time := { phase := .running, startTicks := 8000, rate := 2, fnom := .hz50 } }

/-- The curve of section 4.2.1. -/
def curve4 : List Breakpoint := [⟨100, 500⟩, ⟨300, 2000⟩, ⟨600, 5500⟩, ⟨1000, 11000⟩]

/-- T0 as in sections 2.8.1, 3.6.1, 4.9.1 and 5.8.2. -/
def auto : Settings :=
  let base := Settings.powerOn .hz50
  { base with
    channels := (base.channels.set 0 { enabled := true, trim := -24, gain := 4000, stepThreshold := 0 }).set 1
      { enabled := true, trim := 0, gain := 16384, stepThreshold := 0 }
    transformers := base.transformers.set 0
      { defined := true, terms := [⟨0, 1024⟩, ⟨1, -512⟩], tauUp := 120, tauDown := 240, floor := 50 }
    curves := base.curves.set 0 curve4
    monitors := base.monitors.set 0
      { c := ⟨300, 600, 1000⟩, r := ⟨4000, 8000, 10500⟩, e := ⟨0, 0, 2000000⟩, hC := 50, hR := 200, pUp := 2,
        pDown := 3 } }

/-- A running part with T0 in service and the pending copy equal to the applied one. -/
def inService : State := { idle with store := { applied := auto, pending := auto, isSealed := false } }

/-- A channel's sums. -/
def sums (c : Fin 16) (sum : Nat) (clip low high : Bool) : ChannelSums :=
  { chan := c, sum := sum, clip := clip, allLow := low, allHigh := high }

/-- A cycle that completes now. -/
def done (xs : List ChannelSums) (check : Bool) (ref gnd : Nat) : Cycle :=
  { number := 7312, ps := 20040, degraded := false, sums := xs, selfCheck := check, refSum := ref, gndSum := gnd,
    ticks := 20040, slot := 32, conversions := [], converted := 0 }

/-- A channel that is OK, with these accumulator contents. -/
def okChannel (sum count : Nat) : ChannelRecord := { ChannelRecord.blank .ok with sum := sum, count := count }

/-- The state in which cycle `c` completes. -/
def completing (c : Cycle) (s : State) : State := { s with scanner := { cycleNumber := c.number, cycle := some c } }

/-- The epoch of section 2.8.1 ends: CH0 and CH1 have contributed fifty cycles each. -/
def epochEnds : State :=
  { inService with cond := { inService.cond with
      channels := (inService.cond.channels.set 0 (okChannel 3440800 50)).set 1 (okChannel 3252800 50)
      epochCycles := 50, epochNumber := 2399 } }

/-- T0 with this annunciation record and level. -/
def slot0 (n : Level) (x : Signal) (s : State) : State :=
  { s with slots := s.slots.modify 0 fun y => { y with grade := { y.grade with level := n }, signal := x } }

/-- A frame that lists no channel. -/
def frame (n : Nat) : Frame := { number := BitVec.ofNat 32 n, ps := 20000, degraded := false, channels := [] }

/-- An epoch completion of which the parts `ps` remain. -/
def remaining (ps : List CompletionPart) (s : State) : State := { s with flight := { s.flight with parts := ps } }

/-! ## WellFormed: one ill-formed term for each check -/

/-- R151: LENGTH above 120. -/
theorem test_wellFormed_refuses_long_payload : (Instr.status 0 (List.replicate 121 0) true).wellFormed = false := by
  decide

/-- R158: a KIND of section 11.3 is not unknown. -/
theorem test_wellFormed_refuses_known_kind : (Instr.requestUnknownKind 0x3F 0 [] true).wellFormed = false := by decide

theorem test_wellFormed_refuses_long_unknown :
    (Instr.requestUnknownKind 0x77 0 (List.replicate 121 0) true).wellFormed = false := by decide

theorem test_wellFormed_admits :
    (Instr.requestUnknownKind 0x77 0 (List.replicate 120 0) true).wellFormed = true ∧
    (Instr.setCurve 0 (List.replicate 34 0) true).wellFormed = true ∧ Instr.tonePeriod.wellFormed = true := by decide

/-! ## Numbers -/

set_option maxRecDepth 20000 in
/-- R153. -/
theorem test_crc_of_nine_digits : crc [0x31, 0x32, 0x33, 0x34, 0x35, 0x36, 0x37, 0x38, 0x39] = 0x29B1 := by decide

/-- Section 1.6.1. -/
theorem test_slot_times :
    [0, 1, 2, 3, 16, 31].map (slotTime 20000) = [0, 625, 1250, 1875, 10000, 19375] ∧
    [0, 1, 2, 3, 16, 31].map (slotTime 16667) = [0, 520, 1041, 1562, 8333, 16146] ∧
    [0, 1, 2, 3, 16, 31].map (slotTime 14286) = [0, 446, 892, 1339, 7143, 13839] := by decide

/-- R15: 1.250 V, 1.200 V, ground, and the two rails. -/
theorem test_converter_codes :
    [1250000, 1200000, 0, -1, 2500000].map adcCode = [2048, 1966, 0, 0, 4095] := by decide

/-- R27's table and section 2.8.1. -/
theorem test_channel_currents :
    channelCurrent { enabled := true, trim := -24, gain := 4000, stepThreshold := 0 } 34408 = 102 ∧
    channelCurrent { enabled := true, trim := 0, gain := 16384, stepThreshold := 0 } 32528 = -60 ∧
    channelCurrent { enabled := true, trim := 0, gain := 16384, stepThreshold := 0 } 32762 = -2 := by decide

/-- Section 3.6.2. -/
theorem test_effective_currents :
    [-56832, -76032, 512, -512, 1023, 36864000, -134213632, 511, -511].map effectiveCurrent
      = [-56, -74, 1, -1, 1, 32767, -32767, 0, 0] := by decide

/-- Section 4.2.1. -/
theorem test_curve_targets :
    [0, 40, 101, 132, 300, 450, 999, 1000, 32767].map (curveTarget curve4)
      = [0, 200, 508, 740, 2000, 3750, 10986, 11000, 11000] := by decide

/-- Section 4.9.2, epochs 1 to 8: target, rise before, rise after. -/
theorem test_rise_steps :
    [(740, 0), (3750, 247), (11000, 1415), (11000, 4610), (1550, 6740), (200, 5875), (0, 4929), (0, 11000)].map
      (fun x => riseStep { defined := true, terms := [], tauUp := 3, tauDown := 6, floor := 50 } x.1 x.2)
      = [247, 1415, 4610, 6740, 5875, 4929, 4107, 9166] := by decide

/-- Section 4.9.3: the first step saturates and reports, the second is silent. -/
theorem test_exposure_saturates :
    exposureStep 50 1200 4294967000 = 4294967295 ∧ exposureStep 50 1200 4294967295 = 4294967295 ∧
    exposureStep 50 300 0 = 250 ∧ exposureStep 50 20 4294967295 = 4294967295 := by decide

/-- Section 5.8.1: the demands of nine evaluations, each with the one before as previous demand. -/
theorem test_demands_with_hysteresis :
    ([(320, 0), (280, 1), (640, 1), (590, 2), (560, 2), (540, 2), (580, 1), (260, 1), (240, 1)] : List (Nat × Level)).map
      (fun x => demand ⟨300, 600, 1000⟩ 50 x.1 x.2) = [1, 1, 2, 2, 2, 1, 1, 1, 0] := by decide

/-- Section 5.8.2: level and runs after each of the ten epochs of a storm. -/
theorem test_storm_grading :
    ([(1100, 3000, 1000000), (1150, 5200, 1001100), (980, 8400, 1002030), (900, 9100, 1002880), (500, 9300, 1003330),
      (400, 8100, 1003680), (200, 7900, 1003830), (150, 7600, 1003930), (100, 7400, 1003980),
      (100, 7200, 1004030)].foldl
        (fun (acc : Grade × List (Level × Nat × Nat)) x =>
          let g := acc.1.evaluate (auto.monitors.get 0) x.1 x.2.1 x.2.2
          (g, acc.2 ++ [(g.level, g.up, g.down)])) (Slot.zero.grade, [])).2
      = [(0, 1, 0), (3, 0, 0), (3, 0, 0), (3, 0, 1), (3, 0, 2), (2, 0, 0), (2, 0, 0), (2, 0, 1), (2, 0, 2), (1, 0, 0)] := by
  decide

/-- Section 6.4.2: the high times at loudness 1, 4 and 8. -/
theorem test_high_times :
    [12, 15, 16, 20, 24, 30, 32, 40].map (fun d => (highTime d 1, highTime d 4, highTime d 8))
      = [(6, 4, 1), (8, 5, 1), (8, 5, 1), (10, 6, 1), (12, 8, 2), (15, 9, 2), (16, 10, 2), (20, 13, 3)] := by decide

/-- Section 2.8.4. -/
theorem test_self_check_verdicts :
    [(62950, 400), (64190, 1290), (61590, 0), (62912, 1312)].map
      (fun x => (checkMean x.1, checkMean x.2, checkPasses (checkMean x.1) (checkMean x.2)))
      = [(1967, 13, true), (2006, 40, true), (1925, 0, false), (1966, 41, false)] := by decide

/-! ## Events -/

/-- R134: EPOCH_CYCLES at 60 Hz. -/
theorem test_power_on_at_60_hz : (after (.powerOnReset 3 .hz60) idle).store.applied.general.epochCycles = 60 := by
  decide

/-- R2, R11: the first cycle at 60 Hz is nominal and degraded. -/
theorem test_starting_end :
    ((after .startingEnd { State.powerOn 0 .hz60 with
        time := { phase := .starting, startTicks := 8000, rate := 0, fnom := .hz60 } }).scanner.cycle.map
      fun c => (c.ps, c.degraded)) = some (16667, true) := by decide

/-- Section 1.6.3, first row. -/
theorem test_false_crossing_loses_the_reference :
    let t := after .zrefRisingCrossing { idle with tracker :=
      { state := .locked, pGood := some 20000, goodRun := 3, hold := 0, reference := true, ticks := 9000 } }
    t.tracker = { state := .holdover, pGood := some 20000, goodRun := 0, hold := 0, reference := true, ticks := 0 } ∧
    t.notices.queue = [{ epoch := 0, body := .referenceLost }] := by decide

/-- Section 1.6.4, last row. -/
theorem test_third_good_period_restores_the_reference :
    let t := after .zrefRisingCrossing { idle with tracker :=
      { state := .free, pGood := some 20040, goodRun := 2, hold := 50, reference := true, ticks := 20010 } }
    t.tracker = { state := .locked, pGood := some 20010, goodRun := 3, hold := 50, reference := true, ticks := 0 } ∧
    t.notices.queue = [{ epoch := 0, body := .referenceRestored 20010 }] := by decide

/-- Section 1.6.4, first row. -/
theorem test_missing_crossing :
    (after .missingCrossingExpiry { idle with tracker :=
      { state := .locked, pGood := some 20040, goodRun := 3, hold := 7, reference := true, ticks := 25000 } }).tracker
    = { state := .holdover, pGood := some 20040, goodRun := 0, hold := 0, reference := false, ticks := 0 } := by decide

/-- R14: the channels ascending, then the reference and the ground. -/
theorem test_sample_slot :
    ((after .sampleSlot (completing { (done [sums 0 0 false true true, sums 9 0 false true true] true 0 0) with
        ticks := 626, slot := 1 } idle)).scanner.cycle.map (·.conversions))
    = some [.channel 0, .channel 9, .reference, .ground] := by decide

/-- R16: a code of 4095 sets the clip mark and leaves the low mark clear. -/
theorem test_conversion :
    ((after (.conversionComplete 2600000) (completing { (done [sums 0 100 false true true] false 0 0) with
        ticks := 636, slot := 2, conversions := [.channel 0] } idle)).scanner.cycle.map (·.sums))
    = some [sums 0 4195 true false true] := by decide

/-- Sections 1.6.2 and 2.8.2: CH0 contributes with Cq 34,408; CH9, stuck for the third cycle, goes to FAULT. -/
theorem test_cycle_completion :
    let frozen := { okChannel 10 1 with stuckRun := 2 }
    let t := after (.cycleCompletion [] true false)
      (completing (done [sums 0 68816 false false false, sums 9 96 false true false] false 0 0) { idle with
        cond := { idle.cond with channels := (idle.cond.channels.set 0 (okChannel 0 0)).set 9 frozen } })
    (t.cond.channels.get 0).lastCq = 34408 ∧ (t.cond.channels.get 0).sum = 68816 ∧
    (t.cond.channels.get 9).lastCq = 48 ∧ (t.cond.channels.get 9).state = .fault ∧
    (t.cond.channels.get 9).count = 1 ∧ t.scanner.cycleNumber = 7313 ∧
    t.notices.queue = [{ epoch := 0, body := .channelFault 9 }] := by decide

/-- R165: the notices of Capture Memory and of the Conditioner that one record brings come in either order. -/
theorem test_notices_of_one_record_in_either_order :
    let recovering := { okChannel 0 0 with state := .fault, cleanRun := 2, lastValid := some (32768, 0) }
    let item : ChannelItem := { enabled := true, trim := 0, gain := 0, stepThreshold := 20 }
    let s := completing (done [sums 0 68816 false false false] false 0 0) { inService with
      store := { inService.store with applied := { auto with channels := auto.channels.set 0 item } }
      cond := { inService.cond with channels := inService.cond.channels.set 0 recovering }
      capture := { inService.capture with state := .held } }
    let told := fun order => (after (.cycleCompletion order false false) s).notices.queue.map (·.body)
    told [.entries, .steps] = [.channelRecovered 0, .holdRevoked (.step 0)] ∧
    told [.steps, .nextEntry] = [.holdRevoked (.step 0), .channelRecovered 0] := by decide

/-- Section 1.6.4: the 50th completion in HOLDOVER; the next cycle is nominal. -/
theorem test_fiftieth_completion_in_holdover :
    let t := after (.cycleCompletion [] true false) (completing (done [] false 0 0) { idle with tracker :=
      { state := .holdover, pGood := some 20040, goodRun := 0, hold := 49, reference := false, ticks := 9 } })
    t.tracker.state = .free ∧ t.scanner.cycle.map (·.ps) = some 20000 ∧
    t.notices.queue = [{ epoch := 0, body := .freeRunning }] := by decide

/-- R11, R20: the 50th completion in HOLDOVER is counted and the good period that locks is taken before the scanner's
part: READ TRACKER between them reports one cycle's P_s and number, and the next cycle is the FREE one, nominal. -/
theorem test_crossing_after_the_choice_of_the_period :
    let s := completing (done [] false 0 0) { idle with tracker :=
      { state := .holdover, pGood := some 20040, goodRun := 2, hold := 49, reference := true, ticks := 20010 } }
    let mid := after .zrefRisingCrossing (after (.cycleCompletion [.count] false false) s)
    let t := after (.cycleCompletion [] true false) mid
    mid.tracker.state = .locked ∧
    (waiting (after (.readTracker 0 [] false) mid)).map (fun x => (x.2.drop 3).take 8)
      = some [0x4E, 0x48, 3, 50, 0, 0, 0x1C, 0x90] ∧
    t.scanner.cycle.map (fun c => (c.number, c.ps, c.degraded)) = some (7313, 20000, true) ∧
    t.scanner.cycleNumber = 7313 := by decide

/-- Sections 2.8.1, 3.6.1 and 4.9.1: I_eff 132, T 740, and from R 600 the first step to 602. -/
theorem test_epoch_completion :
    let t := after (.epochCompletion [.current 0, .thermal 0] false false) { epochEnds with
      slots := epochEnds.slots.modify 0 fun x => { x with thermal := { x.thermal with rise := 600 } } }
    (t.cond.channels.get 0).lastValid = some (34408, 102) ∧ (t.cond.channels.get 1).lastValid = some (32528, -60) ∧
    (t.slots.get 0).cur.ieff = 132 ∧ (t.slots.get 0).thermal.target = 740 ∧ (t.slots.get 0).thermal.rise = 602 ∧
    (t.slots.get 0).thermal.exposure = 82 ∧ t.cond.epochNumber = 2400 := by decide

/-- Section 8.6.2, second row: the set that removes a slot applies, and SETTINGS APPLIED carries the next epoch. -/
theorem test_apply_removes_a_slot :
    let t := after (.epochCompletion [.settings] false false) (remaining [.settings] { epochEnds with
      cond := { epochEnds.cond with epochCycles := 0, epochNumber := 2400 }
      store := { applied := auto, pending := Settings.powerOn .hz50, isSealed := true } })
    t.slots.get 0 = .zero ∧ t.store.isSealed = false ∧ t.store.applied = Settings.powerOn .hz50 ∧
    (t.cond.channels.get 0).state = .disabled ∧
    t.notices.queue = [{ epoch := 2400, body := .settingsApplied }] := by decide

/-- Section 6.9.2, beat 1: the level 2 pattern goes to its off step, and the line is low. -/
theorem test_beat_advances_the_horn :
    let t := after (.beatExpiry false) { slot0 2 { state := .flashing, flash := 2, acked := 0 } inService with
      ann := { inService.ann with
        beatTicks := 125000, tone := some { source := .horn, divisor := 20, highTime := 10, high := true } } }
    t.ann.hornPos = 1 ∧ t.ann.tone = none ∧ t.ann.fastPos = 1 ∧ t.ann.beatTicks = 0 := by decide

/-- Section 6.9.1, last row: the second sample acknowledges with source BUTTON, and a chirp of two beats starts. -/
theorem test_button_acknowledges :
    let t := after (.beatExpiry true) { slot0 1 { state := .ringback, flash := 0, acked := 3 } inService with
      ann := { inService.ann with beatTicks := 125000, debounce := .seen } }
    (t.slots.get 0).signal = { state := .quiet, flash := 0, acked := 0 } ∧ t.ann.chirp = 2 ∧
    t.notices.queue.map (·.body.detailBytes) = [[1, 1]] := by decide

/-- Section 9.10.3: the host's SYNC is taken as LENGTH 195. -/
theorem test_noise_byte_discards_the_frame :
    (after (.byteTaken 0xC3 true false) { idle with link := { idle.link with receiver := .receiving [] } }).link.receiver
      = .hunting := by decide

set_option maxRecDepth 20000 in
/-- Section 9.10.1: the SILENCE frame with TAG 0x5A enters service. -/
theorem test_frame_enters_service :
    ((requestFrame 0x21 0x5A []).foldl (fun s b => after (.byteTaken b true false) s) idle).link.service
      = some { kind := 0x21, tag := 0x5A, payload := [], stage := .entered } := by decide

/-- R155. -/
theorem test_inter_byte_expiry :
    (after .interByteExpiry { idle with link := { idle.link with receiver := .receiving [3], byteTicks := 20000 } }
      ).link.receiver = .hunting := by decide

/-- Section 9.10.2: CAPTURE INFO into a pending hold. -/
theorem test_frame_dropped_into_a_hold :
    let s := after (.captureHold 1 [] true) idle
    (after .frameDropped s).link.dropped = true ∧ (after (.captureInfo 2 [] true) s).link.dropped = true ∧
    (after (.captureInfo 2 [] true) s).link.tx = .idle := by decide

/-- R158. -/
theorem test_unknown_kind : waiting (after (.requestUnknownKind 0x06 1 [] false) idle) = some (.refusedKind, []) := by
  decide

/-- Section 9.10.1: HRDY asserted; eight bytes with KIND 0xA1, TAG 0x5A, DONE, no flags. -/
theorem test_hrdy_starts_the_reply :
    (match (after .hrdyAsserted (after (.silence 0x5A [] false) idle)).link.tx with
      | .sending bs => bs.take 6
      | .idle | .waitHrdy _ => []) = [0xC3, 0, 0xA1, 0x5A, 0, 0] ∧
    (replyBytes idle 0x21 0x5A .done []).length = 8 := by decide

/-- Section 9.10.1: eight characters at 115,200 bit/s take 694.4 µs. -/
theorem test_reply_sent :
    let s := after (.silence 0x5A [] true) idle
    (after .replySent { s with link := { s.link with txTicks := 694 } }).link.service = s.link.service ∧
    (after .replySent { s with link := { s.link with txTicks := 695 } }).link.service = none := by decide

/-- R105: tone index 3 has divisor 20; at loudness 1 its high time is 10. -/
theorem test_tone_period :
    (after .tonePeriod { idle with ann := { idle.ann with
      tone := some { source := .horn, divisor := 40, highTime := 20, high := false } } }).ann.tone
      = some { source := .horn, divisor := 20, highTime := 10, high := true } := by decide

/-! ## Requests -/

/-- Section 11.4: STATUS of a part that has just started, at RATE 2, with T0 defined. -/
theorem test_status :
    waiting (after (.status 0 [] false) inService) = some (.done,
      [0x4E, 0x01, 2, 0, 1, 0, 0, 0, 0, 0, 0, 0, 0, 0, 1] ++ List.replicate 26 0) := by decide

/-- Section 11.4: READ TRACKER in HOLDOVER with P_good 20,040 and hold 7. -/
theorem test_read_tracker :
    waiting (after (.readTracker 0 [] false) (completing (done [] false 0 0) { idle with tracker :=
      { state := .holdover, pGood := some 20040, goodRun := 2, hold := 7, reference := true, ticks := 0 } }))
    = some (.done, [2, 0x4E, 0x48, 0x4E, 0x48, 2, 7, 0, 0, 0x1C, 0x90, 0, 0, 0, 0]) := by decide

/-- Section 2.8.1: READ CHANNEL 0 after the epoch completion. -/
theorem test_read_channel :
    waiting (after (.readChannel 0 [0] false) (after (.epochCompletion [] false false) epochEnds)) = some (.done,
      [0, 1, 0, 0, 0x80, 0, 0, 0, 0, 0x86, 0x68, 0, 102, 50, 0, 0x86, 0x68, 0, 102]) := by decide

/-- Section 3.6.1: READ TRANSFORMER 0 begins with defined, I_eff 132, no flags, T 740, and R ceiling(740 / 120) = 7. -/
theorem test_read_transformer :
    (waiting (after (.readTransformer 0 [0] false)
      (after (.epochCompletion [.current 0, .thermal 0] false false) epochEnds))).map (·.2.take 13) = some [0, 1, 0, 132, 0, 2, 0xE4, 0, 7, 0, 0, 0, 82] := by decide

/-- R166: an empty queue gives 0 notices; count 5 is refused on field 1. -/
theorem test_fetch_notice :
    waiting (after (.fetchNotice 0 [4] false) idle) = some (.done, [0]) ∧
    waiting (after (.fetchNotice 0 [5] false) idle) = some (.refusedValue, [5, 0, 1]) := by decide

/-- Section 11.4: a CAPTURE MISSED record naming STEP, CH0 at epoch 1,801, and a LEVEL CHANGED record. -/
theorem test_notice_records :
    ({ epoch := 1801, body := .captureMissed (.step 0) } : Notice).bytes = [0x0C, 0, 0, 7, 9, 0xFF, 2, 0] ∧
    ({ epoch := 2, body := .levelChanged 3 0 3 true false false } : Notice).bytes
      = [1, 0, 0, 0, 2, 3, 0, 3, 1] := by decide

/-- R134: field 4, annunciate-at, must be 1..3. -/
theorem test_set_general :
    waiting (after (.setGeneral 0 [50, 2, 0x58, 1, 0, 2, 16] false) idle) = some (.refusedValue, [0x10, 0, 4]) ∧
    (after (.setGeneral 0 [60, 0, 0, 0, 3, 1, 47] false) idle).store.pending.general
      = { epochCycles := 60, checkInterval := 0, attention := false, annunciateAt := 3, captureLevel := 1,
          preDepth := 47 } := by decide

/-- Section 8.6.1: SET CHANNEL 10. -/
theorem test_set_channel :
    (after (.setChannel 0 [10, 1, 0xFF, 0xF0, 0x0F, 0xA0, 0, 20] false) idle).store.pending.channels.get 10
      = { enabled := true, trim := -16, gain := 4000, stepThreshold := 20 } := by decide

/-- Section 8.6.1: SET TRANSFORMER 3. -/
theorem test_set_transformer :
    (after (.setTransformer 0 [3, 1, 2, 10, 4, 0, 11, 0xFE, 0, 0, 0, 0, 0, 120, 0, 240, 0, 50] false) idle
      ).store.pending.transformers.get 3
      = { defined := true, terms := [⟨10, 1024⟩, ⟨11, -512⟩], tauUp := 120, tauDown := 240, floor := 50 } := by decide

/-- Section 11.5: a SET CURVE with values in places 5 to 8 reads back with zeros there. -/
theorem test_set_curve :
    (after (.setCurve 0 ([3, 4, 0, 100, 1, 0xF4, 1, 0x2C, 7, 0xD0, 2, 0x58, 0x15, 0x7C, 3, 0xE8, 0x2A, 0xF8]
      ++ List.replicate 16 9) false) idle).store.pending.curves.get 3 = curve4 := by decide

/-- Section 11.5: a P_down byte of 17 for slot 3. -/
theorem test_set_monitors :
    waiting (after (.setMonitors 0 ([3] ++ List.replicate 28 0 ++ [2, 17]) false) idle)
      = some (.refusedValue, [0x14, 3, 13]) := by decide

/-- Section 8.6.1: SET CONTACT 2 to LEVEL(T3, 2). -/
theorem test_set_contact :
    (after (.setContact 0 [2, 1, 1, 3, 2, 0] false) idle).store.pending.contacts.get 2
      = { enabled := true, source := .level 3 2, sense := .energizeWhenTrue } := by decide

/-- R140: loudness 9 is refused. -/
theorem test_set_annunciator :
    (waiting (after (.setAnnunciator 0 ([3, 9] ++ List.replicate 17 1) false) idle)).map (·.1)
      = some .refusedValue := by decide

/-- Section 11.5: READ SETTINGS of CURVE 3. -/
theorem test_read_settings :
    waiting (after (.readSettings 0 [0x13, 3, 1] false) { idle with store := { idle.store with applied :=
      { idle.store.applied with curves := idle.store.applied.curves.set 3 curve4 } } })
    = some (.done, [3, 4, 0, 100, 1, 0xF4, 1, 0x2C, 7, 0xD0, 2, 0x58, 0x15, 0x7C, 3, 0xE8, 0x2A, 0xF8]
        ++ List.replicate 16 0) := by decide

/-- Sections 8.6.1 and 11.5: COMMIT fails on T3's second term channel; T0's set passes. -/
theorem test_commit :
    waiting (after (.commit 0 [] false) { inService with store := { inService.store with pending := { auto with
      channels := auto.channels.set 10 { enabled := true, trim := -16, gain := 4000, stepThreshold := 20 }
      transformers := auto.transformers.set 3
        { defined := true, terms := [⟨10, 1024⟩, ⟨11, -512⟩], tauUp := 120, tauDown := 240, floor := 50 } } } })
      = some (.refusedValue, [0x12, 3, 5]) ∧
    (after (.commit 0 [] false) inService).store.isSealed = true := by decide

/-- Section 8.6.2, first row. -/
theorem test_discard :
    (after (.discard 0 [] false) { inService with
      store := { applied := auto, pending := Settings.powerOn .hz50, isSealed := true } }).store
      = { applied := auto, pending := auto, isSealed := false } := by decide

/-- Section 6.9.1: ACKNOWLEDGE T2's likeness, FLASHING at CRITICAL, replies with the set of slots changed. -/
theorem test_acknowledge :
    let t := after (.acknowledge 0 [0] false) (slot0 3 { state := .flashing, flash := 3, acked := 0 } inService)
    (t.slots.get 0).signal = { state := .steady, flash := 0, acked := 3 } ∧ waiting t = some (.done, [1]) := by decide

/-- Section 6.9.1: SILENCE while FLASHING. -/
theorem test_silence :
    let t := after (.silence 0 [] false) (slot0 2 { state := .flashing, flash := 2, acked := 0 } inService)
    t.ann.silenced = true ∧ t.hornRequest = false ∧ (t.slots.get 0).signal.state = .flashing := by decide

/-- Section 4.9.3, third row. -/
theorem test_clear_exposure :
    ((after (.clearExposure 0 [0] false) { inService with slots := inService.slots.modify 0 fun x => { x with thermal :=
      { target := 740, rise := 600, exposure := 4294967295, satReported := true } } }).slots.get 0).thermal
      = { target := 740, rise := 600, exposure := 0, satReported := false } := by decide

/-- Section 4.9.2: PRESET THERMAL with rise 20000 is clamped to the top rise 11000. -/
theorem test_preset_thermal :
    ((after (.presetThermal 0 [0, 0x4E, 0x20, 0, 0, 0, 0] false) inService).slots.get 0).thermal.rise = 11000 ∧
    waiting (after (.presetThermal 0 [1, 0, 0, 0, 0, 0, 0] false) inService) = some (.refusedState, []) := by decide

/-- R34: the second request finds the check scheduled. -/
theorem test_self_check :
    let s := after (.selfCheck 0 [] false) idle
    s.cond.selfCheck = .scheduled ∧ s.cond.origin = some .request ∧
    waiting (after (.selfCheck 0 [] false) { s with link := idle.link }) = some (.busy, []) := by decide

/-- Section 7.7.1: a trigger in HELD keeps the newest sixteen frames and revokes the hold. -/
theorem test_capture_trigger :
    let t := after (.captureTrigger 0 [] false) { idle with
      capture := { idle.capture with state := .held, ring := (List.range 20).map frame } }
    t.capture.ring = (List.range' 4 16).map frame ∧ t.capture.post = 32 ∧ t.capture.preKept = 16 ∧
    t.notices.queue = [{ epoch := 0, body := .holdRevoked .request }] := by decide

/-- Section 7.7.1: the hold is granted at the next completion, after its frame. -/
theorem test_capture_hold :
    let s := after (.captureHold 0 [] false) { completing (done [] false 0 0) idle with
      capture := { idle.capture with ring := [frame 1], current := some { frame := frame 2, kept := true } } }
    let t := after (.cycleCompletion [] true false) s
    s.capture.state = .armed ∧ t.capture.state = .held ∧ t.capture.ring = [frame 1, frame 2] ∧
    waiting t = some (.done, []) := by decide

/-- R127: RELEASE in ARMED is refused. -/
theorem test_capture_release : waiting (after (.captureRelease 0 [] false) idle) = some (.refusedState, []) := by decide

/-- R128: the frame index must be below the fill; the channel must be in the frame's list. -/
theorem test_capture_read :
    let s := { idle with capture := { idle.capture with state := .frozen, ring := [{ (frame 7) with
      channels := [{ chan := 0, codes := List.replicate 32 2048, clip := true }] }] } }
    waiting (after (.captureRead 0 [1, 0] false) s) = some (.refusedValue, [0x33, 0, 1]) ∧
    waiting (after (.captureRead 0 [0, 1] false) s) = some (.refusedValue, [0x33, 0, 2]) ∧
    (waiting (after (.captureRead 0 [0, 0] false) s)).map (·.2.take 10) = some [0, 0, 0, 7, 0x4E, 0x20, 2, 0, 8, 0] := by
  decide

/-- Section 7.7.1: CAPTURE INFO at the freeze. -/
theorem test_capture_info :
    waiting (after (.captureInfo 0 [] false) { idle with capture := { idle.capture with
      state := .frozen, ring := (List.range 48).map frame, preKept := 16, depth := 16, missed := 18
      record := some { cause := .step 0, cycle := 90012, epoch := 1801 } } })
    = some (.done, [3, 48, 16, 0, 2, 0, 0, 1, 0x5F, 0x9C, 0, 0, 7, 9, 18]) := by decide

/-- R162: RESTART reverts the pending copy at the end of its reply, not before. -/
theorem test_restart :
    let s := after (.restart 0 [] true) { inService with
      store := { applied := auto, pending := Settings.powerOn .hz50, isSealed := true } }
    s.store.isSealed = true ∧
    (after .replySent { s with link := { s.link with txTicks := 10000 } }).store
      = { applied := auto, pending := auto, isSealed := false } := by decide

/-! ## Witnesses for the hypotheses of the obligations, at boundary values of each clause -/

/-- Monitors that grade by the current alone, at once. -/
def swiftMonitors : MonitorsItem :=
  { c := ⟨300, 600, 1000⟩, r := .unused, e := .unused, hC := 0, hR := 0, pUp := 1, pDown := 1 }

/-- `auto` with these monitors for T0. -/
def swift : Settings := { auto with monitors := auto.monitors.set 0 swiftMonitors }

/-- A channel that is OK with a valid result of this current. -/
def readsAs (i : Int) : ChannelRecord :=
  { ChannelRecord.blank .ok with
    result := { mq := 0, current := i, k := 1, held := false, clipped := false, degraded := false, neverValid := false } }

/-- T0's effective current is to be formed, under `x`, from a channel that reads `i`. -/
def forming (i : Int) (x : Settings) : State :=
  remaining [.current 0, .thermal 0, .grade 0, .annunciate 0, .levels, .settings] { idle with
    store := { applied := x, pending := x, isSealed := false }
    cond := { idle.cond with channels := idle.cond.channels.set 0 (readsAs i) } }

/-- T0's thermal step is to be taken, under `auto`, with I_eff `i` and this thermal record. -/
def stepping (i : Int) (th : Thermal) : State :=
  remaining [.thermal 0, .grade 0, .annunciate 0, .levels, .settings] { forming i auto with
    slots := idle.slots.modify 0 fun x => { x with cur := { x.cur with ieff := i }, thermal := th } }

/-- T0 is to be graded, with I_eff `i`, under `x`. -/
def grading (i : Int) (x : Settings) : State :=
  { forming i x with flight := { Flight.none with
      parts := [.grade 0, .annunciate 0, .levels, .settings]
      handed := [{ slot := 0, ieff := i, rise := 0, exposure := 0 }] } }

/-- T0's thermal step is taken. -/
def stepped (s : State) : State := after (.epochCompletion [.thermal 0] false false) s

/-- T0 is graded. -/
def graded (s : State) : State := after (.epochCompletion [.grade 0] false false) s

/-- The Annunciator has yet to take that T0 went from one level to another, with this annunciation record. -/
def hearing (old new : Level) (x : Signal) : State :=
  slot0 new x { grading 0 swift with flight := { Flight.none with
    parts := [.annunciate 0, .levels, .settings], changes := [{ slot := 0, old := old, new := new }] } }

/-- A completion without channels, with this capture. -/
def capturing (c : Capture) : State := completing (done [] false 0 0) { idle with capture := c }

/-- A sealed set is to be applied. -/
def applying (old new : Settings) : State :=
  remaining [.settings] { idle with store := { applied := old, pending := new, isSealed := true } }

/-- `auto` with another annunciate-at level. -/
def withA (a : Level) : Settings := { auto with general := { auto.general with annunciateAt := a } }

/-- STARTING, so many ticks on. -/
def starting (n : Nat) : State :=
  { State.reset with time := { phase := .starting, startTicks := n, rate := 0, fnom := .hz50 } }

/-- RUNNING with this tracker. -/
def tracking (st : TrackerState) (goodRun ticks : Nat) (reference : Bool) : State :=
  { idle with tracker := { state := st, pGood := some 20000, goodRun := goodRun, hold := 0, reference := reference,
                           ticks := ticks } }

/-- A request in service. -/
def serving (stage : Stage) (tx : Transmitter) (ticks : Nat) : State :=
  { idle with link := { idle.link with
      service := some { kind := 0x21, tag := 1, payload := [], stage := stage }, tx := tx, txTicks := ticks } }

/-- A receiver that has taken these bytes. -/
def received (bs : List Byte) (ticks : Nat) : State :=
  { idle with link := { idle.link with receiver := .receiving bs, byteTicks := ticks } }

/-- FLASHING at ALERT. -/
def flashing : State := slot0 2 { state := .flashing, flash := 2, acked := 0 } inService

theorem witness_StepRunsTheFrontCommand :
    ({ idle with pending := [.tonePeriod, .sampleSlot] } : State).pending = .tonePeriod :: [.sampleSlot] := by decide

theorem witness_EmptyQueueStepIsOneTick :
    ((starting 7999).pending = [] ∧ (starting 7999).time.phase = .starting ∧ (starting 7999).time.startTicks < 8000) ∧
    ((starting 8000).pending = [] ∧ (starting 8000).time.phase = .starting ∧ 8000 ≤ (starting 8000).time.startTicks) ∧
    (epochEnds.pending = [] ∧ epochEnds.time.phase = .running ∧ epochEnds.eventDue = true) ∧
    (idle.pending = [] ∧ idle.time.phase = .running ∧ idle.eventDue = false) := by and_intros <;> decide

theorem witness_PowerOnResetValues : inService.pending = [] := by decide

theorem witness_StartingTakesNothing : (starting 0).time.phase = .starting := by decide

theorem witness_StartingEndStartsTheFirstCycle :
    (starting 8000).time.phase = .starting ∧ (starting 8000).time.startTicks = 8000 ∧
    (starting 8000).tracker.state = .searching ∧ (starting 8000).cond.selfCheck ≠ .scheduled ∧
    ({ starting 8000 with cond := { idle.cond with selfCheck := .scheduled } } : State).cond.selfCheck = .scheduled := by
  and_intros <;> decide

theorem witness_CrossingsAndGoodPeriods :
    (idle.time.phase = .running ∧ idle.tracker.reference = false) ∧
    (let s := tracking .locked 3 14286 true
     s.time.phase = .running ∧ s.tracker.reference = true ∧ s.tracker.ticks = 14286 ∧ s.tracker.state = .locked) ∧
    (let s := tracking .holdover 1 25000 true
     s.time.phase = .running ∧ s.tracker.reference = true ∧ s.tracker.ticks = 25000 ∧ s.tracker.state ≠ .locked ∧
       s.tracker.goodRun < 2) ∧
    (let s := tracking .searching 2 14286 true
     s.time.phase = .running ∧ s.tracker.reference = true ∧ s.tracker.ticks = 14286 ∧ s.tracker.state = .searching ∧
       s.tracker.goodRun = 2) ∧
    (let s := tracking .free 2 25000 true
     s.time.phase = .running ∧ s.tracker.reference = true ∧ s.tracker.ticks = 25000 ∧
       (s.tracker.state = .holdover ∨ s.tracker.state = .free) ∧ s.tracker.goodRun = 2) := by and_intros <;> decide

theorem witness_BadPeriodsByTrackerState :
    (let s := tracking .locked 3 14285 true
     s.time.phase = .running ∧ s.tracker.reference = true ∧ s.tracker.ticks < 14286 ∧ s.tracker.state = .locked) ∧
    (let s := tracking .free 2 0 true
     s.time.phase = .running ∧ s.tracker.reference = true ∧ s.tracker.ticks < 14286 ∧ s.tracker.state ≠ .locked) ∧
    (let s := tracking .locked 3 25000 true
     s.time.phase = .running ∧ s.tracker.ticks = 25000 ∧ s.tracker.state = .locked) ∧
    (let s := tracking .searching 0 25000 false
     s.time.phase = .running ∧ s.tracker.ticks = 25000 ∧ s.tracker.state ≠ .locked) := by and_intros <;> decide

theorem witness_SampleSlotsAndTheirConversions :
    (14286 ≤ 14286 ∧ 14286 ≤ 25000 ∧ 30 < 31) ∧
    (let c : Cycle := { done [] true 0 0 with ps := 20000, slot := 31, ticks := 19375 }
     let s := completing c idle
     s.time.phase = .running ∧ s.scanner.cycle = some c ∧ c.slot < 32 ∧ c.ticks = c.slot * c.ps / 32) := by and_intros <;> decide

theorem witness_ConversionEntersItsSum :
    (let c : Cycle :=
       { done [sums 3 0 false true true] false 0 0 with slot := 1, ticks := 10, conversions := [.channel 3] }
     let f : OpenFrame := { frame := frame 7312, kept := true }
     let s := completing c { idle with capture := { idle.capture with current := some f } }
     s.time.phase = .running ∧ s.scanner.cycle = some c ∧ c.ticks = slotTime c.ps (c.slot - 1) + 10 * (c.converted + 1) ∧
       c.conversions = .channel 3 :: [] ∧ s.capture.current = some f ∧ f.kept = true ∧
       ({ f with kept := false } : OpenFrame).kept = false) ∧
    (let c : Cycle := { (done [] true 0 0) with slot := 1, ticks := 10, conversions := [.reference, .ground] }
     (completing c idle).time.phase = .running ∧ (completing c idle).scanner.cycle = some c ∧
       c.ticks = slotTime c.ps (c.slot - 1) + 10 * (c.converted + 1) ∧ c.conversions = .reference :: [.ground]) ∧
    (let c : Cycle := { (done [] true 0 0) with slot := 1, ticks := 20, converted := 1, conversions := [.ground] }
     (completing c idle).time.phase = .running ∧ (completing c idle).scanner.cycle = some c ∧
       c.ticks = slotTime c.ps (c.slot - 1) + 10 * (c.converted + 1) ∧ c.conversions = .ground :: []) := by and_intros <;> decide

theorem witness_CycleCompletionStartsTheNextCycle :
    let c := done [] false 0 0
    ((completing c idle).completes c ∧
      (completing c idle).cond.epochCycles + 1 ≠ (completing c idle).store.applied.general.epochCycles ∧
      (completing c idle).tracker.state ≠ .holdover) ∧
    (let s := completing c (tracking .holdover 0 0 true)
     s.completes c ∧ s.cond.epochCycles + 1 ≠ s.store.applied.general.epochCycles ∧ s.tracker.state = .holdover ∧
       s.tracker.hold < 49) ∧
    (let s := completing c { idle with tracker := { idle.tracker with state := .holdover, hold := 49 } }
     s.completes c ∧ s.cond.epochCycles + 1 ≠ s.store.applied.general.epochCycles ∧ s.tracker.state = .holdover ∧
       s.tracker.hold = 49) ∧
    (let s := completing c { idle with cond := { idle.cond with selfCheck := .scheduled } }
     s.completes c ∧ s.cond.epochCycles + 1 ≠ s.store.applied.general.epochCycles ∧ c.selfCheck = false ∧
       s.cond.selfCheck = .scheduled) ∧
    (let s := remaining cycleParts (completing c idle)
     s.time.phase = .running ∧ .settings ∉ s.flight.parts ∧ .count ∈ s.flight.parts) ∧
    (let g : CycleStart := { ps := 20040, degraded := false }
     let s := { idle with flight := { Flight.none with parts := [.start], given := some g } }
     s.time.phase = .running ∧ .settings ∉ s.flight.parts ∧ .start ∈ s.flight.parts ∧
       (∀ q ∈ [CompletionPart.entries, .frame, .count], q ∉ s.flight.parts) ∧ s.flight.given = some g) := by
  and_intros <;> decide

theorem witness_ChannelEntriesOfACompletion :
    let c := done [sums 0 68816 false false false, sums 9 96 false true false, sums 12 0 false true false] false 0 0
    let recovering := { okChannel 0 0 with state := .fault, cleanRun := 2 }
    let freezing := { okChannel 10 1 with stuckRun := 2 }
    let s := completing c { idle with
      cond := { idle.cond with channels := (idle.cond.channels.set 0 recovering).set 9 freezing } }
    s.completes c ∧ (c.sums.map (·.chan)).Nodup ∧ (s.cond.channels.get 0).state = .fault ∧
    (s.cond.channels.get 9).state = .ok ∧ (s.cond.channels.get 12).state = .disabled ∧
    (1 : Fin 16) ∉ c.sums.map (·.chan) ∧ ((after (.cycleCompletion [] true false) s).cond.channels.get 0).state = .ok ∧
    ((after (.cycleCompletion [] true false) s).cond.channels.get 9).state = .fault := by and_intros <;> decide

theorem witness_SelfCheckVerdictAndSchedule :
    let pass := done [] true 61632 1280
    let fail := done [] true 61600 0
    (let s := completing pass { idle with cond := { idle.cond with selfCheck := .running, origin := some .request } }
     s.completes pass ∧ pass.selfCheck = true ∧ 1926 = (pass.refSum + 16) / 32 ∧ (pass.gndSum + 16) / 32 = 40 ∧
       s.cond.origin = some .request) ∧
    (let s := completing fail { idle with cond := { idle.cond with origin := some .automatic, verdict := .fail } }
     s.completes fail ∧ fail.selfCheck = true ∧ (fail.refSum + 16) / 32 < 1926 ∧ s.cond.origin ≠ some .request ∧
       s.cond.verdict = (after (.cycleCompletion [.entries] false false) s).cond.verdict ∧ fail.sums = []) ∧
    (epochEnds.epochCompletes ∧ epochEnds.cond.selfCheck = .none ∧
      epochEnds.store.applied.general.checkInterval ≠ 0 ∧
      min 3600 (epochEnds.cond.autoCount + 1) < epochEnds.store.applied.general.checkInterval) ∧
    (let s := { epochEnds with cond := { epochEnds.cond with autoCount := 599, selfCheck := .pass } }
     s.epochCompletes ∧ s.cond.selfCheck = .pass ∧
       s.store.applied.general.checkInterval ≤ min 3600 (s.cond.autoCount + 1)) ∧
    (let s := { epochEnds with cond := { epochEnds.cond with selfCheck := .running } }
     s.epochCompletes ∧ s.cond.selfCheck = .running) := by and_intros <;> decide

/-- The hypotheses that the clauses share. -/
abbrev hypCompletedFrameByCaptureState (s : State) (f : OpenFrame) : Prop :=
  s.completes (done [] false 0 0) ∧ s.cond.epochCycles + 1 ≠ s.store.applied.general.epochCycles ∧ s.unwatched ∧
    s.capture.current = some f ∧ s.capture.holdPending = false

theorem witness_CompletedFrameByCaptureState :
    let kept : OpenFrame := { frame := frame 50, kept := true }
    let lost : OpenFrame := { frame := frame 50, kept := false }
    let tr : Trigger := { cause := .request, cycle := 1, epoch := 1 }
    let run := fun n => (List.range n).map frame
    hypCompletedFrameByCaptureState (capturing { idle.capture with current := some lost }) lost ∧
    hypCompletedFrameByCaptureState (capturing { idle.capture with state := .held, current := some kept }) kept ∧
    hypCompletedFrameByCaptureState (capturing { idle.capture with state := .frozen, current := some kept }) kept ∧
    hypCompletedFrameByCaptureState (capturing { idle.capture with ring := run 47, current := some kept }) kept ∧
    hypCompletedFrameByCaptureState (capturing { idle.capture with ring := run 48, current := some kept }) kept ∧
    hypCompletedFrameByCaptureState (capturing { idle.capture with state := .triggered, post := 2, record := some tr, current := some kept }) kept ∧
    hypCompletedFrameByCaptureState (capturing { idle.capture with state := .triggered, post := 1, record := some tr, current := some kept }) kept ∧
    (let quiet : Settings := { auto with general := { auto.general with captureLevel := 0 } }
     let s := fun (c : Capture) => remaining [.steps, .frame, .count, .start] { epochEnds with
       store := { epochEnds.store with applied := quiet }, capture := c }
     let hyp := fun (x : State) (f : OpenFrame) => x.epochCompletes ∧ .frame ∈ x.flight.parts ∧ x.flight.steps = [] ∧
       x.store.applied.general.captureLevel = 0 ∧ x.capture.current = some f ∧ x.capture.holdPending = false
     hyp (s { idle.capture with ring := run 47, current := some kept }) kept ∧
     hyp (s { idle.capture with ring := run 48, current := some kept }) kept ∧
     hyp (s { idle.capture with state := .held, current := some kept }) kept ∧
     hyp (s { idle.capture with current := some lost }) lost ∧
     hyp (s { idle.capture with state := .triggered, post := 2, record := some tr, current := some kept }) kept ∧
     hyp (s { idle.capture with state := .triggered, post := 1, record := some tr, current := some kept }) kept) := by
  and_intros <;> decide

/-- The hypotheses that the clauses share. -/
abbrev hypPendingHoldIsGranted (r : Service) (s : State) : Prop :=
  s.completes (done [] false 0 0) ∧ s.cond.epochCycles + 1 ≠ s.store.applied.general.epochCycles ∧ s.unwatched ∧
    s.capture.holdPending = true ∧ s.capture.state = .armed ∧ s.link.service = some r

theorem witness_PendingHoldIsGranted :
    let r : Service := { kind := 0x31, tag := 9, payload := [], stage := .holding }
    let s := fun (n : Nat) (f : Option OpenFrame) =>
      { capturing { idle.capture with holdPending := true, ring := (List.range n).map frame, current := f } with
        link := { idle.link with service := some r } }
    hypPendingHoldIsGranted r (s 47 (some { frame := frame 50, kept := true })) ∧
    hypPendingHoldIsGranted r (s 48 (some { frame := frame 50, kept := true })) ∧
    hypPendingHoldIsGranted r (s 48 (some { frame := frame 50, kept := false })) := by and_intros <;> decide

/-- A completion at which CH0 is stuck, and CH1 and CH2 stand at differences of `x` and `y` sixteenths with H = 20. -/
def stepping2 (x y : Nat) (c : Capture) : State :=
  let cycle := done [sums 0 0 false true false, sums 1 (68815 + 2 * x) false false false,
    sums 2 (68815 + 2 * y) false false false] false 0 0
  let item : ChannelItem := { enabled := true, trim := 0, gain := 0, stepThreshold := 20 }
  let r := { okChannel 0 0 with lastValid := some (34408, 102) }
  completing cycle { inService with
    store := { inService.store with applied := { auto with
      channels := ((auto.channels.set 0 item).set 1 item).set 2 item } }
    cond := { inService.cond with channels := ((inService.cond.channels.set 0 r).set 1 r).set 2 r }
    capture := c, link := { idle.link with
      service := some { kind := 0x31, tag := 1, payload := [], stage := .holding } } }

/-- The hypotheses that the clauses share, with the channels that step. -/
abbrev hypStepTriggersAnArmedRing (s : State) (chans : List (Fin 16)) : Prop :=
  match s.scanner.cycle with
  | none => False
  | some c => s.completes c ∧ (c.sums.map (·.chan)).Nodup ∧ s.capture.missed ≤ 255 ∧
      (c.sums.filter s.stepsAt).map (·.chan) = chans

/-- Section 2.8.3: a difference of 320 at H = 20 triggers, and one of 319 does not. -/
theorem witness_StepTriggersAnArmedRing :
    hypStepTriggersAnArmedRing (stepping2 319 319 idle.capture) [] ∧
    hypStepTriggersAnArmedRing (stepping2 319 320 idle.capture) [2] ∧
    hypStepTriggersAnArmedRing (stepping2 320 320 { idle.capture with holdPending := true }) [1, 2] ∧
    hypStepTriggersAnArmedRing (stepping2 320 320 { idle.capture with state := .held }) [1, 2] ∧
    hypStepTriggersAnArmedRing (stepping2 320 319 { idle.capture with state := .triggered, missed := 255 }) [1] ∧
    hypStepTriggersAnArmedRing (stepping2 320 320 { idle.capture with state := .frozen }) [1, 2] := by
  and_intros <;> decide

theorem witness_EpochCompletionRunsEveryChainOnce :
    (epochEnds.epochCompletes ∧ epochEnds.store.isSealed = false ∧ epochEnds.flight.parts = [] ∧
      epochEnds.capture.holdPending = false ∧ (epochEnds.store.applied.transformers.get 0).defined = true ∧
      (epochEnds.store.applied.transformers.get 7).defined = false) ∧
    (let s := remaining [.steps, .frame, .count, .start] epochEnds
     s.epochCompletes ∧ .count ∈ s.flight.parts ∧ .start ∈ s.flight.parts ∧ s.cond.selfCheck ≠ .running) ∧
    (let s := { epochEnds with
       cond := { epochEnds.cond with autoCount := 599 }
       flight := { Flight.none with parts := [.start], given := some { ps := 20040, degraded := false } } }
     s.epochCompletes ∧ s.flight.given = some { ps := 20040, degraded := false } ∧ .start ∈ s.flight.parts ∧
       .count ∉ s.flight.parts ∧
       s.store.applied.general.checkInterval = min 3600 (s.cond.autoCount + 1)) := by and_intros <;> decide

/-- The hypotheses that the clauses share. -/
abbrev hypChannelResultsOfAnEpoch (s : State) (i : Fin 16) : Prop :=
  s.epochCompletes ∧ s.store.isSealed = false ∧ (s.cond.channels.get i).state ≠ .disabled ∧
    (s.store.applied.channels.get i).inRange ∧ (s.cond.channels.get i).sum ≤ 131040 * (s.cond.channels.get i).count

theorem witness_ChannelResultsOfAnEpoch :
    let last := { okChannel 0 0 with lastValid := some (33100, 41) }
    let s := { epochEnds with cond := { epochEnds.cond with
      channels := ((epochEnds.cond.channels.set 1 (okChannel 131040 1)).set 2 (okChannel 0 0)).set 3 last } }
    hypChannelResultsOfAnEpoch s 0 ∧ hypChannelResultsOfAnEpoch s 1 ∧ (s.cond.channels.get 1).count = 1 ∧
    hypChannelResultsOfAnEpoch s 2 ∧ (s.cond.channels.get 2).count = 0 ∧ (s.cond.channels.get 2).lastValid = none ∧
    hypChannelResultsOfAnEpoch s 3 ∧ (s.cond.channels.get 3).lastValid = some (33100, 41) := by and_intros <;> decide

theorem witness_EffectiveCurrentOfASlot :
    let item : TransformerItem := { defined := true, terms := [⟨0, 3072⟩], tauUp := 1, tauDown := 1, floor := 0 }
    let big : Settings := { auto with transformers := auto.transformers.set 0 item }
    ((forming 102 auto).awaits (.current 0) ∧ ((forming 102 auto).store.applied.transformers.get 0).defined = true ∧
      (1024 * 102 : Int).natAbs < 32767 * 1024 + 512) ∧
    ((forming 12000 big).awaits (.current 0) ∧ (big.transformers.get 0).defined = true ∧
      (32767 * 1024 + 512 : Int) ≤ 3072 * 12000) ∧
    ((forming (-12000) big).awaits (.current 0) ∧ (3072 * (-12000) : Int) ≤ -(32767 * 1024 + 512)) := by and_intros <;> decide

/-- The hypotheses that the clauses share. -/
abbrev hypThermalStepOfASlot (s : State) : Prop :=
  s.awaits (.thermal 0) ∧ (s.store.applied.transformers.get 0).defined = true ∧ curveOk (s.store.applied.curves.get 0) ∧
    curveInRange (s.store.applied.curves.get 0) ∧ (s.store.applied.transformers.get 0).inRange ∧
    (s.slots.get 0).thermal.rise ≤ 60000 ∧ (s.slots.get 0).thermal.sound

theorem witness_ThermalStepOfASlot :
    let at' := fun (i : Int) (rise expo : Nat) (mark : Bool) =>
      stepping i { target := 0, rise := rise, exposure := expo, satReported := mark }
    let y := fun (s : State) => ((stepped s).slots.get 0).thermal
    hypThermalStepOfASlot (at' 1000 0 0 false) ∧
    (hypThermalStepOfASlot (at' (-999) 60000 0 false) ∧ (y (at' (-999) 60000 0 false)).target < 60000) ∧
    (hypThermalStepOfASlot (at' 0 0 4294967295 false) ∧ (y (at' 0 0 4294967295 false)).exposure = 4294967295) ∧
    (hypThermalStepOfASlot (at' 0 0 4294967295 true) ∧ (((at' 0 0 4294967295 true).slots.get 0).thermal.satReported = true)) ∧
    (hypThermalStepOfASlot (at' 51 1 4294967293 false) ∧ (y (at' 51 1 4294967293 false)).exposure = 4294967294) := by
  and_intros <;> decide

/-- T0 can be graded. -/
abbrev hypGrade (s : State) : Prop :=
  s.awaits (.grade 0) ∧ (s.store.applied.transformers.get 0).defined = true ∧ s.flight.handedTo 0 ≠ none

/-- R66, R71: a preset between the thermal step and the grading stands, and the grading uses the stepped values. -/
theorem test_preset_before_grading :
    let s := stepped (stepping 600 { target := 0, rise := 0, exposure := 0, satReported := false })
    let t := graded (after (.presetThermal 0 [0, 0, 5, 0, 0, 0, 9] false) s)
    s.flight.handed = [{ slot := 0, ieff := 600, rise := 46, exposure := 550 }] ∧
    (t.slots.get 0).thermal.rise = 5 ∧ (t.slots.get 0).grade.prevC = 2 ∧ t.flight.handed = [] := by decide

theorem witness_GradingOfASlot :
    let at' := fun (i : Int) (n : Level) (up down : Nat) (lo hi : Level) =>
      let g : Grade := { level := n, prevC := 0, prevR := 0, prevE := 0, up := up, upMin := lo, down := down,
                         downMax := hi }
      { grading i auto with slots := (grading i auto).slots.modify 0 fun x => { x with grade := g } }
    let dem := fun (s : State) => ((graded s).slots.get 0).grade.demanded
    (let s := at' 600 0 1 0 3 0
     hypGrade s ∧ 0 < dem s ∧ (s.slots.get 0).grade.up + 1 = (s.store.applied.monitors.get 0).pUp) ∧
    (let s := at' 600 0 0 0 0 0
     hypGrade s ∧ 0 < dem s ∧ (s.slots.get 0).grade.up + 1 ≠ (s.store.applied.monitors.get 0).pUp) ∧
    (let s := at' 300 3 0 2 0 2
     hypGrade s ∧ dem s < 3 ∧ (s.slots.get 0).grade.down + 1 = (s.store.applied.monitors.get 0).pDown) ∧
    (let s := at' 300 3 0 1 0 2
     hypGrade s ∧ dem s < 3 ∧ (s.slots.get 0).grade.down + 1 ≠ (s.store.applied.monitors.get 0).pDown) ∧
    (let s := at' 1000 3 0 1 0 2
     hypGrade s ∧ dem s = 3) := by and_intros <;> decide

theorem witness_LevelChangeOfASlot :
    let new := fun (s : State) => ((graded s).slots.get 0).grade.level
    let st := fun (i : Int) (n : Level) => slot0 n { state := .quiet, flash := 0, acked := 0 } (grading i swift)
    let sig := fun (k : SignalState) (f a : Level) => ({ state := k, flash := f, acked := a } : Signal)
    let hyp := fun (s : State) => s.awaits (.annunciate 0) ∧ (s.store.applied.transformers.get 0).defined = true
    (hypGrade (st 0 0) ∧ new (st 0 0) = 0 ∧ (st 0 0).flight.changeOf 0 = none) ∧
    (hypGrade (st 600 0) ∧ new (st 600 0) = 2) ∧ (hypGrade (st 300 0) ∧ new (st 300 0) = 1) ∧
    (hypGrade (st 300 2) ∧ new (st 300 2) = 1) ∧
    (hearing 0 2 (sig .quiet 0 0)).flight.changeOf 0 = some { slot := 0, old := 0, new := 2 } ∧
    (hyp (remaining [.annunciate 0, .settings] inService) ∧
      (remaining [.annunciate 0, .settings] inService).flight.changeOf 0 = none) ∧
    hyp (hearing 0 2 (sig .quiet 0 0)) ∧ hyp (hearing 0 1 (sig .ringback 0 3)) ∧ hyp (hearing 2 3 (sig .flashing 2 0)) ∧
    hyp (hearing 2 1 (sig .flashing 2 0)) ∧ hyp (hearing 3 1 (sig .steady 0 3)) ∧ hyp (hearing 2 3 (sig .steady 0 2)) ∧
    hyp (hearing 3 2 (sig .steady 0 3)) := by and_intros <;> decide

/-- R99, R172: between the Evaluator's level change and the Annunciator's taking of it, STATUS shows the new level with the
old annunciation state, and an acknowledgement comes before the whole change: FLASHING at 3 becomes STEADY, and then, at
level 1 below A, RINGBACK. After the change it makes FLASHING QUIET. -/
theorem test_between_level_change_and_annunciation :
    let s := graded (slot0 3 { state := .flashing, flash := 3, acked := 0 } (grading 300 swift))
    let take := after (.epochCompletion [.annunciate 0] false false)
    let ack := after (.acknowledge 0 [0] false)
    (waiting (after (.status 0 [] false) s)).map (fun x => (x.2.getD 15 9, x.2.getD 23 9)) = some (1, 1) ∧
    ((take (ack s)).slots.get 0).signal = { state := .ringback, flash := 0, acked := 3 } ∧
    ((ack (take s)).slots.get 0).signal = { state := .quiet, flash := 0, acked := 0 } := by decide

/-- R123: with a STEP, a LEVEL and another STEP trigger in this order, the first is taken and the second reported. -/
theorem test_triggers_of_one_completion :
    let tr := fun (x : Cause) => ({ cause := x, cycle := 0, epoch := 0 } : Trigger)
    let t := after (.epochCompletion [.nextStep, .levels, .steps] false false) { idle with flight :=
      { Flight.none with
        parts := [.steps, .levels, .settings], steps := [tr (.step 1), tr (.step 4)], levels := [tr (.level 2)] } }
    t.capture.record = some (tr (.step 1)) ∧ t.capture.missed = 2 ∧ t.flight.parts = [.settings] ∧
    t.notices.queue.map (·.body) = [.captureMissed (.level 2)] := by decide

/-- The hypotheses that the clauses share. -/
abbrev hypLevelTriggerByCaptureState (tr : Trigger) (x : State) : Prop :=
  x.awaits .levels ∧ x.flight.levels = [tr]

theorem witness_LevelTriggerByCaptureState :
    let tr : Trigger := { cause := .level 3, cycle := 5, epoch := 6 }
    let s := fun (c : Capture) => { (remaining [.levels, .settings] idle) with
      flight := { Flight.none with parts := [.levels, .settings], levels := [tr] }, capture := c
      link := { idle.link with service := some { kind := 0x31, tag := 1, payload := [], stage := .holding } } }
    hypLevelTriggerByCaptureState tr (s idle.capture) ∧ hypLevelTriggerByCaptureState tr (s { idle.capture with holdPending := true }) ∧
    hypLevelTriggerByCaptureState tr (s { idle.capture with state := .held }) ∧ hypLevelTriggerByCaptureState tr (s { idle.capture with state := .triggered, missed := 255 }) ∧
    hypLevelTriggerByCaptureState tr (s { idle.capture with state := .frozen, missReported := true }) ∧
    (let low : Trigger := { tr with cause := .level 0 }
     let x := { s idle.capture with flight := { (s idle.capture).flight with levels := [tr, low] } }
     x.awaits .levels ∧ x.capture.missed ≤ 255 ∧ x.capture.state = .armed ∧ x.capture.holdPending = false ∧
       x.capture.missReported = false ∧ x.flight.levels = [tr, low] ∧ (0 : Fin 8) < 3) := by and_intros <;> decide

theorem witness_SealedSetIsApplied :
    let fresh := Settings.powerOn .hz50
    let moved : Settings := { auto with curves := auto.curves.set 0 [⟨500, 3000⟩] }
    (remaining [.settings] inService).awaits .settings ∧ inService.store.isSealed = false ∧
    ((applying fresh auto).awaits .settings ∧ (applying fresh auto).store.isSealed = true ∧
      (fresh.transformers.get 0).defined ≠ (auto.transformers.get 0).defined ∧
      (fresh.channels.get 0).enabled = false ∧ (auto.channels.get 0).enabled = true ∧
      1 ≤ auto.general.annunciateAt ∧ (fresh.transformers.get 7).defined = false ∧
      (auto.transformers.get 7).defined = false) ∧
    ((applying auto fresh).awaits .settings ∧ (auto.channels.get 0).enabled = true ∧
      (fresh.channels.get 0).enabled = false) ∧
    ((applying auto moved).awaits .settings ∧ (moved.transformers.get 0).defined = true ∧
      auto.curves.get 0 ≠ moved.curves.get 0) ∧
    ((applying auto (withA 3)).awaits .settings ∧ auto.curves.get 0 = (withA 3).curves.get 0) := by and_intros <;> decide

/-- The hypotheses that the clauses share. -/
abbrev hypNewAnnunciateAtLevelIsReevaluated (s : State) : Prop :=
  s.awaits .settings ∧ s.store.isSealed = true ∧
    s.store.applied.general.annunciateAt ≠ s.store.pending.general.annunciateAt ∧
    (s.store.applied.transformers.get 0).defined = true ∧ (s.store.pending.transformers.get 0).defined = true

/-- Section 6.9.3. -/
theorem witness_NewAnnunciateAtLevelIsReevaluated :
    let at' := fun (a n : Level) (k : SignalState) (f c : Level) =>
      slot0 n { state := k, flash := f, acked := c } (applying auto (withA a))
    hypNewAnnunciateAtLevelIsReevaluated (at' 1 1 .quiet 0 0) ∧ hypNewAnnunciateAtLevelIsReevaluated (at' 1 1 .ringback 0 2) ∧ hypNewAnnunciateAtLevelIsReevaluated (at' 3 2 .steady 0 2) ∧ hypNewAnnunciateAtLevelIsReevaluated (at' 3 1 .ringback 0 2) ∧
    hypNewAnnunciateAtLevelIsReevaluated (at' 1 2 .steady 0 2) ∧ hypNewAnnunciateAtLevelIsReevaluated (at' 3 0 .flashing 2 0) := by and_intros <;> decide

theorem witness_BeatWithoutAPress :
    let s := fun (d : Debounce) => { idle with ann := { idle.ann with beatTicks := 125000, debounce := d } }
    ((s .seen).time.phase = .running ∧ (s .seen).ann.beatTicks = 125000 ∧ false = false) ∧
    ((s .taken).ann.beatTicks = 125000 ∧ (s .taken).ann.debounce ≠ .seen) := by and_intros <;> decide

theorem witness_SecondSampleAcknowledgesAll :
    let s := { flashing with ann := { flashing.ann with beatTicks := 125000, debounce := .seen } }
    s.time.phase = .running ∧ s.ann.beatTicks = 125000 ∧ s.ann.debounce = .seen ∧ s.isDefined 0 = true ∧
      (s.slots.get 0).signal.state = .flashing ∧ s.applied.general.annunciateAt ≤ s.heardLevel 0 ∧
      (hearing 1 2 { state := .flashing, flash := 2, acked := 0 }).heardLevel 0 < 2 := by
  and_intros <;> decide

theorem witness_HornRequestLineAndSilence :
    flashing.hornKey = some 2 ∧
    (let tone : Tone := { source := .horn, divisor := 20, highTime := 10, high := true }
     let s := { flashing with ann := { flashing.ann with tone := some tone } }
     s.toneSound ∧ s.hornLine = true ∧ s.canServe ∧ s.hornRequest = true) ∧
    (idle.canServe ∧ idle.hornRequest = false) := by and_intros <;> decide

theorem witness_TonePeriodAlternatesTheLine : 40 ∈ [12, 15, 16, 20, 24, 30, 32, 40] ∧ 1 ≤ 8 ∧ 8 ≤ 8 := by and_intros <;> decide

theorem witness_LinesFollowTheState :
    idle.time.phase = .running ∧ (starting 0).time.phase = .starting ∧
    (let s := serving .answered (.sending [0xC3, 0x01]) 165
     s.link.tx = .sending [0xC3, 0x01] ∧ ([0xC3, 0x01] : List Byte)[1]? = some 0x01 ∧
       (10 * 1 + 9) * 1000000 ≤ s.link.txTicks * bitRate s.time.rate ∧
       s.link.txTicks * bitRate s.time.rate < (10 * 1 + 9 + 1) * 1000000) := by and_intros <;> decide

theorem witness_RequestFrameEntersService :
    idle.canServe ∧ idle.link.receiver = .hunting ∧ (List.replicate 120 (0xC3 : Byte)).length ≤ 120 := by and_intros <;> decide

set_option maxRecDepth 20000 in
theorem witness_DiscardedBytesLeaveNoTrace :
    (idle.time.phase = .running ∧ idle.link.receiver = .hunting ∧ (0xC2 : Byte) ≠ 0xC3) ∧
    ((received [3] 0).time.phase = .running ∧ (received [3] 0).link.receiver = .receiving [3]) ∧
    ((received [] 0).link.receiver = .receiving [] ∧ 120 < (121 : Byte).toNat) ∧
    ((received [0, 0x21, 0x5A, 0] 0).link.receiver = .receiving (0 :: [0x21, 0x5A] ++ [0]) ∧
      ([0x21, 0x5A] : List Byte).length = (0 : Byte).toNat + 2 ∧
      (0 : Byte).toNat * 256 + (0 : Byte).toNat ≠ (crc [0, 0x21, 0x5A]).toNat) ∧
    ((received [3] 20000).link.byteTicks = 20000) := by and_intros <;> decide

theorem witness_FramesDroppedOrRefused :
    let r : Service := { kind := 0x21, tag := 1, payload := [], stage := .holding }
    ((serving .holding .idle 0).time.phase = .running ∧ (serving .holding .idle 0).link.service = some r ∧
      r ≠ { kind := RequestKind.code .status, tag := 1, payload := [], stage := .entered }) ∧
    (let s := serving .entered .idle 0
     s.time.phase = .running ∧
       s.link.service = some { kind := RequestKind.code .silence, tag := 1, payload := [], stage := .entered }) ∧
    (let unknown : Service := { kind := 0x06, tag := 1, payload := [], stage := .entered }
     let s : State := { idle with link := { idle.link with service := some unknown } }
     s.time.phase = .running ∧ s.link.service = some unknown ∧
       RequestKind.all.all (fun k => k.code != 0x06) = true) ∧
    (idle.canServe ∧ RequestKind.all.all (fun k => k.code != 0x06) = true ∧
      ([1] : List Byte).length ≠ RequestKind.status.length) ∧
    (serving .answered .idle 0).link.receiver = .hunting := by and_intros <;> decide

theorem witness_ReplyStartsAndEndsTheService :
    (serving .answered (.waitHrdy { kind := 0x21 ||| 0x80, tag := 1, status := .done, body := [] }) 0).link.tx
      = .waitHrdy { kind := 0x21 ||| 0x80, tag := 1, status := .done, body := [] } ∧
    ((serving .answered (.sending (List.replicate 8 0)) 695).time.phase = .running ∧
      8 * 10 * 1000000 ≤ 695 * bitRate 2 ∧ ¬ 8 * 10 * 1000000 ≤ 694 * bitRate 2) ∧
    ((serving .restarting (.sending []) 0).link.service
      = some { kind := 0x21, tag := 1, payload := [], stage := .restarting } ∧
      (serving .restarting (.sending []) 0).link.tx = .sending []) := by and_intros <;> decide

theorem witness_ReadsAreAnsweredAndChangeNothing :
    (completing (done [] false 0 0) idle).scanner.cycle = some (done [] false 0 0) ∧
    ((0, 1, 0x4E) : Nat × Nat × Nat) ∈ [(0, 1, 0x4E)] ∧ 255 < 256 ^ 1 ∧ idle.canServe ∧ 16 ≤ (16 : Byte).toNat ∧ 8 ≤ (8 : Byte).toNat := by and_intros <;> decide

theorem witness_ReadSettingsReturnsTheNamedItem :
    idle.canServe ∧ (0x0F : Byte).toNat < 0x10 ∧ 0x16 < (0x17 : Byte).toNat ∧ (16 : Byte).toNat = 16 ∧
    (2 : Byte).toNat = 2 ∧ (15 : Byte).toNat = (15 : Fin 16).val ∧ (7 : Byte).toNat = (7 : Fin 8).val ∧
    (5 : Byte).toNat = (5 : Fin 6).val := by and_intros <;> decide

theorem witness_CaptureReadReturnsTheNamedFrame :
    let f : Frame := { (frame 7) with channels := [{ chan := 0, codes := [], clip := false }] }
    let s := { idle with capture := { idle.capture with state := .held, ring := [f] } }
    idle.canServe ∧ idle.capture.state = .armed ∧ s.canServe ∧ s.capture.state = .held ∧
    s.capture.ring.length ≤ (1 : Byte).toNat ∧ s.capture.ring[(0 : Byte).toNat]? = some f ∧
    (f.channels.all fun x => x.chan.val != (1 : Byte).toNat) = true ∧
    f.channels = [] ++ { chan := 0, codes := [], clip := false } :: [] := by and_intros <;> decide

theorem witness_FetchNoticeRemovesTheOldest :
    idle.canServe ∧ 1 ≤ (4 : Byte).toNat ∧ (4 : Byte).toNat ≤ 4 ∧ (0 : Byte).toNat = 0 ∧ 4 < (5 : Byte).toNat := by and_intros <;> decide

theorem witness_SetStoresTheGlobalItems :
    idle.canServe ∧ idle.store.isSealed = false ∧ idle.store.applied.general.inRange ∧
    idle.store.applied.annunciator.inRange ∧ (auto.channels.get 0).inRange ∧
    (ContactSource.level 3 1).inRange = true := by and_intros <;> decide

theorem witness_SetStoresTheSlotItems :
    idle.canServe ∧ idle.store.isSealed = false ∧ (auto.transformers.get 0).inRange ∧
    curveInRange (auto.curves.get 0) ∧ (auto.monitors.get 0).inRange := by and_intros <;> decide

theorem witness_SetIsRefusedOnItsFirstBadField :
    (idle.canServe ∧ idle.store.isSealed = false ∧
      RequestKind.all.all (fun k => (List.replicate k.length (0 : Byte)).length == k.length) = true) ∧
    ((applying auto auto).canServe ∧ (applying auto auto).store.isSealed = true ∧
      (List.replicate 7 (0 : Byte)).length = RequestKind.setGeneral.length) := by and_intros <;> decide

/-- R141, section 11.3: a weight of 0 in a place within the count, after a channel of 15, fails on field 6; a bad
current of breakpoint 8 on field 16, with the index as received; a source level of ANY LEVEL on field 4. -/
theorem test_set_refusals :
    waiting (after (.setTransformer 0 [7, 1, 2, 15, 4, 0, 0, 0, 0, 0, 0, 0, 0, 1, 0, 1, 0, 0] false) idle)
      = some (.refusedValue, [0x12, 7, 6]) ∧
    waiting (after (.setCurve 0 ([2, 8] ++ (List.replicate 7 [0, 1, 0, 0]).flatten ++ [0x80, 0, 0, 0]) false) idle)
      = some (.refusedValue, [0x13, 2, 16]) ∧
    waiting (after (.setChannel 0 [200, 9, 0, 0, 0, 0, 0, 0] false) idle) = some (.refusedValue, [0x11, 200, 0]) ∧
    waiting (after (.setContact 0 [0, 0, 2, 9, 0, 9] false) idle) = some (.refusedValue, [0x15, 0, 4]) := by decide

theorem witness_CommitSealsAndDiscardReverts :
    ((applying auto auto).canServe ∧ (applying auto auto).store.isSealed = true) ∧
    (inService.canServe ∧ inService.store.isSealed = false ∧ commitFailure inService.store.pending = none) ∧
    (let s := { idle with store := { idle.store with pending := { idle.store.pending with
        contacts := idle.store.pending.contacts.set 5
          { enabled := false, source := .level 7 1, sense := .energizeWhenTrue } } } }
     s.canServe ∧ s.store.isSealed = false ∧ (commitFailure s.store.pending).isSome = true) := by and_intros <;> decide

/-- T0's set passes every cross-item check. -/
theorem witness_crossChecked : auto.crossChecked := by
  have h1 : ∀ t, (auto.transformers.get t).defined = true → termsOk auto (auto.transformers.get t).terms := by decide
  have h2 : ∀ t, (auto.transformers.get t).defined = true → curveOk (auto.curves.get t) := by decide
  have h3 : ∀ t, (auto.monitors.get t).c.ascendingUsed := by decide
  have h4 : ∀ t, (auto.monitors.get t).r.ascendingUsed := by decide
  have h5 : ∀ t, (auto.monitors.get t).e.ascendingUsed := by decide
  refine ⟨fun t h => ⟨h1 t h, h2 t h, h3 t, h4 t, h5 t⟩, ?_⟩
  intro k
  have h : ∀ k, (auto.contacts.get k).source = .none := by decide
  rw [h k]
  trivial

/-- R110, R144: a LEVEL source that names a slot not defined fails the checks. -/
theorem witness_not_crossChecked :
    let bad : ContactItem := { enabled := false, source := .level 7 1, sense := .energizeWhenTrue }
    ¬ ({ auto with contacts := auto.contacts.set 5 bad } : Settings).crossChecked :=
  fun h => Bool.false_ne_true (h.2 5)

theorem witness_AcknowledgeAnswersTheSlotsItChanged :
    flashing.flight.changes = [] ∧
    (hearing 1 2 { state := .flashing, flash := 2, acked := 0 }).flight.changes = [{ slot := 0, old := 1, new := 2 }] ∧
    flashing.canServe ∧ 8 ≤ (8 : Byte).toNat ∧ (8 : Byte) ≠ 0xFF ∧ (7 : Byte).toNat = (7 : Fin 8).val ∧
    (flashing.store.applied.transformers.get 7).defined = false ∧ (0 : Byte).toNat = (0 : Fin 8).val ∧
    (flashing.store.applied.transformers.get 0).defined = true ∧ (flashing.slots.get 0).signal.state = .flashing ∧
    (inService.slots.get 0).signal.state = .quiet := by and_intros <;> decide

theorem witness_ThermalRequests :
    inService.canServe ∧ 8 ≤ (8 : Byte).toNat ∧ (8 : Byte) ≠ 0xFF ∧ (7 : Byte).toNat = (7 : Fin 8).val ∧
    (inService.store.applied.transformers.get 7).defined = false ∧
    (inService.store.applied.transformers.get 0).defined = true ∧
    (inService.store.applied.curves.get 0).getLast? = some ⟨1000, 11000⟩ := by and_intros <;> decide

theorem witness_SelfCheckAndRestartRequests :
    (idle.canServe ∧ idle.cond.selfCheck = .none) ∧
    (let s := { idle with cond := { idle.cond with selfCheck := .scheduled } }
     s.canServe ∧ s.cond.selfCheck = .scheduled) := by and_intros <;> decide

theorem witness_CaptureRequestsByState :
    (capturing idle.capture).canServe ∧ (capturing idle.capture).capture.state = .armed ∧
    (capturing { idle.capture with state := .held }).canServe ∧
    (capturing { idle.capture with state := .triggered }).canServe ∧
    (capturing { idle.capture with state := .frozen }).canServe := by and_intros <;> decide

theorem witness_RefusedRequestsChangeNothing : idle.canServe := by and_intros <;> decide

theorem witness_StrapsAndRunningHoldUntilReset : exec .tonePeriod idle = .next (after .tonePeriod idle) := rfl

theorem witness_ExposureNeverDecreasesOtherwise :
    let s := { inService with slots := inService.slots.modify 0 fun x => { x with thermal :=
      { target := 0, rise := 0, exposure := 5, satReported := false } } }
    let t := after (.clearExposure 0 [0] true) s
    (s.slots.get 0).thermal.exposure ≤ 4294967295 ∧
      (t.slots.get 0).thermal.exposure < (s.slots.get 0).thermal.exposure := by and_intros <;> decide

theorem witness_LevelsMoveOnlyAtAnEpochCompletion :
    let s := slot0 0 { state := .quiet, flash := 0, acked := 0 } (grading 600 swift)
    s.flight.sound ∧ ((graded s).slots.get 0).grade.level ≠ (s.slots.get 0).grade.level := by and_intros <;> decide

theorem witness_CapturedFramesAreNotOverwritten :
    let s := capturing { idle.capture with state := .triggered, post := 2 }
    (s.capture.state = .triggered ∨ s.capture.state = .frozen) ∧ s.capture.holdPending = false := by and_intros <;> decide

theorem witness_StepKeepsTheNoticeQueue : idle.notices.sound ∧ step idle = .next (idle.countTick) := by
  refine ⟨by decide, ?_⟩
  simp only [step, show idle.pending = [] from rfl, State.tick, show idle.time.phase = .running from rfl,
    show idle.eventDue = false by decide, if_false, Bool.false_eq_true]

theorem witness_StepKeepsTheTrackerAndItsPeriods :
    idle.tracker.sound ∧ idle.scanner.sound ∧ idle.flight.givenSound := by
  refine ⟨⟨?_, by decide⟩, ?_, ?_⟩
  · intro p h; cases h
  · intro c h; cases h
  · intro g h; cases h

theorem witness_StepKeepsTheSettingsChecked : inService.store.sound :=
  ⟨by decide, by decide, witness_crossChecked, fun _ => witness_crossChecked⟩

theorem witness_StepKeepsEmptySlotsAndThermalRanges :
    inService.undefinedSlotsZero ∧ ∀ u, (inService.slots.get u).thermal.sound := by and_intros <;> decide

theorem witness_StepKeepsTheRuns :
    ∀ u, inService.isDefined u = true → (inService.slots.get u).grade.sound (inService.applied.monitors.get u) := by
  decide

theorem witness_StepKeepsTheAnnunciator :
    inService.toneSound ∧ inService.store.sound ∧ inService.flight.sound ∧ inService.signalsSound := by
  refine ⟨by decide, witness_StepKeepsTheSettingsChecked, by and_intros <;> decide, by decide, ?_⟩
  intro u _
  have h : ∀ u, (inService.slots.get u).signal = { state := .quiet, flash := 0, acked := 0 } ∧
      inService.heardLevel u < inService.applied.general.annunciateAt := by decide
  rw [(h u).1]
  exact ⟨(h u).2, rfl, rfl⟩

theorem witness_StepKeepsCaptureAndService : idle.capture.sound ∧ idle.linkSound := by
  refine ⟨by decide, ?_, ?_⟩
  · constructor
    · intro h; exact absurd rfl h
    · rintro ⟨r, h, _⟩; cases h
  · constructor
    · intro h; cases h
    · rintro ⟨r, h, _⟩; cases h

theorem witness_StepKeepsTheOrderOfParts :
    idle.flight.sound ∧ (forming 0 auto).flight.sound ∧ (grading 0 auto).flight.sound ∧
    (hearing 0 2 { state := .quiet, flash := 0, acked := 0 }).flight.sound := by and_intros <;> decide

end Sys2Proof.Tests
end

/-! Channel conditioning and the self-check (chapter 2 of the manual): the rounding laws, the epoch result of a channel,
the verdict and the automatic self-check, and what the parts of a completion leave alone. -/

namespace Sys2Proof.Machine

/-! ## Rounding (scope 6.2) -/

/-- The quotient of a rounding half up lies within half a divisor of the exact one, and above it at a tie. -/
theorem roundHalfUp_bounds (n : Nat) {y : Nat} (hy : 0 < y) :
    2 * (roundHalfUp n y * y) ≤ 2 * n + y ∧ 2 * n < 2 * (roundHalfUp n y * y) + y := by
  have hle : roundHalfUp n y * (2 * y) ≤ 2 * n + y := Nat.div_mul_le_self _ _
  have hlt : 2 * n + y < (roundHalfUp n y + 1) * (2 * y) := Nat.lt_mul_of_div_lt (Nat.lt_succ_self _) (by omega)
  constructor <;> nlinarith

/-- The model's rounding is the one that the scope file's section 6.2 means. -/
theorem roundHalfAway_roundedAway (x : Int) {y : Nat} (hy : 0 < y) : roundedAway x y (roundHalfAway x y) := by
  obtain ⟨hle, hlt⟩ := roundHalfUp_bounds x.natAbs hy
  unfold roundHalfAway
  split
  · have hcast : (roundHalfUp x.natAbs y : Int) * y = (roundHalfUp x.natAbs y * y : Nat) := by push_cast; rfl
    rw [roundedAway, hcast]
    constructor <;> omega
  · have hcast : -(roundHalfUp x.natAbs y : Int) * y = -(roundHalfUp x.natAbs y * y : Nat) := by push_cast; ring
    rw [roundedAway, hcast]
    constructor <;> omega

/-- A value of at most `b` and a half in magnitude, counted in `y`ths, rounds to at most `b + 1`. -/
theorem roundHalfAway_natAbs_le {x : Int} {y b : Nat} (hy : 0 < y) (hx : 2 * x.natAbs < (2 * b + 1) * y) :
    (roundHalfAway x y).natAbs ≤ b := by
  have hb : roundHalfUp x.natAbs y ≤ b := by
    unfold roundHalfUp
    exact Nat.lt_succ_iff.mp ((Nat.div_lt_iff_lt_mul (by omega)).mpr (by rw [Nat.succ_eq_add_one]; nlinarith))
  unfold roundHalfAway
  split <;> omega

/-- Clamping leaves alone what lies within the range. -/
theorem clampInt_of_within {lo hi x : Int} (hlo : lo ≤ x) (hhi : x ≤ hi) : clampInt lo hi x = x := by
  unfold clampInt
  rw [if_neg (by omega), if_neg (by omega)]

/-! ## The epoch result of one channel (R26 to R28) -/

/-- R26: the epoch mean stays within 0..65520, as every cycle sum stays within 0..131040. -/
theorem epochMean_le {sum k : Nat} (hk : 1 ≤ k) (h : sum ≤ 131040 * k) : epochMean sum k ≤ 65520 := by
  unfold epochMean
  exact Nat.lt_succ_iff.mp ((Nat.div_lt_iff_lt_mul (by omega)).mpr (by omega))

/-- R27: with the items in range the rounded current lies within 17408 in magnitude. -/
theorem roundHalfAway_current_le {item : ChannelItem} (hitem : item.inRange) {mq : Nat} (hmq : mq ≤ 65520) :
    (roundHalfAway (((mq : Int) - 32768 - item.trim) * item.gain) 65536).natAbs ≤ 17408 := by
  obtain ⟨htlo, hthi, hglo, hghi, -⟩ := hitem
  apply roundHalfAway_natAbs_le (by decide)
  have hd : ((mq : Int) - 32768 - item.trim).natAbs ≤ 34816 := by omega
  have hg : item.gain.natAbs ≤ 32768 := by omega
  have hprod := Nat.mul_le_mul hd hg
  rw [Int.natAbs_mul]
  omega

/-- R27: in range the clamp to 32767 never acts. -/
theorem channelCurrent_eq {item : ChannelItem} (hitem : item.inRange) {mq : Nat} (hmq : mq ≤ 65520) :
    channelCurrent item mq = roundHalfAway (((mq : Int) - 32768 - item.trim) * item.gain) 65536 := by
  have h := roundHalfAway_current_le hitem hmq
  exact clampInt_of_within (by omega) (by omega)

section
variable {item : ChannelItem} {r : ChannelRecord}

/-- R26, R27: the result of a channel with an accumulated cycle. -/
theorem ChannelRecord.epochResult_of_count (hk : 1 ≤ r.count) :
    r.epochResult item =
      { mq := epochMean r.sum r.count, current := channelCurrent item (epochMean r.sum r.count), k := r.count
        held := false, clipped := r.clipSeen, degraded := r.degradedSeen, neverValid := false } := by
  unfold ChannelRecord.epochResult
  rw [if_neg (by omega)]

/-- R28: a channel without one repeats its last valid pair. -/
theorem ChannelRecord.epochResult_of_valid {mq : Nat} {cur : Int} (hk : r.count = 0)
    (hv : r.lastValid = some (mq, cur)) :
    r.epochResult item =
      { mq := mq, current := cur, k := 0, held := true, clipped := false, degraded := false, neverValid := false } := by
  simp [ChannelRecord.epochResult, hk, hv]

/-- R28: a channel without one that has never been valid. -/
theorem ChannelRecord.epochResult_of_never (hk : r.count = 0) (hv : r.lastValid = none) :
    r.epochResult item = .never := by
  simp [ChannelRecord.epochResult, hk, hv]

/-- R28: in either case the result is HELD, with no mark of the accumulator. -/
theorem ChannelRecord.epochResult_held (hk : r.count = 0) :
    (r.epochResult item).held = true ∧ (r.epochResult item).clipped = false ∧
      (r.epochResult item).degraded = false ∧ (r.epochResult item).k = r.count := by
  cases hv : r.lastValid with
  | none => rw [epochResult_of_never hk hv, hk]; exact ⟨rfl, rfl, rfl, rfl⟩
  | some pair => rw [epochResult_of_valid hk hv, hk]; exact ⟨rfl, rfl, rfl, rfl⟩

theorem ChannelRecord.epochResult_k : (r.epochResult item).k = r.count := by
  rcases Nat.eq_zero_or_pos r.count with hk | hk
  · exact (epochResult_held hk).2.2.2
  · rw [epochResult_of_count hk]

/-- R26, R27: mean and current of a valid result, with the items in range and sums that cycles can give. -/
theorem ChannelRecord.epochResult_bounds (hitem : item.inRange) (hk : 1 ≤ r.count)
    (hsum : r.sum ≤ 131040 * r.count) :
    (r.epochResult item).mq ≤ 65520 ∧
      roundedAway ((((r.epochResult item).mq : Int) - 32768 - item.trim) * item.gain) 65536
        (r.epochResult item).current ∧
      -17408 ≤ (r.epochResult item).current ∧ (r.epochResult item).current ≤ 17408 := by
  have hmq := epochMean_le hk hsum
  have hcur := roundHalfAway_current_le hitem hmq
  rw [epochResult_of_count hk]
  simp only [channelCurrent_eq hitem hmq]
  exact ⟨hmq, roundHalfAway_roundedAway _ (by decide), by omega, by omega⟩

/-- R26 to R28: the record of a channel in OK or FAULT after an epoch completion. -/
theorem ChannelRecord.closeEpoch_of_enabled (h : r.state ≠ .disabled) :
    r.closeEpoch item = { r with
      result := r.epochResult item
      lastValid := if r.count = 0 then r.lastValid
        else some ((r.epochResult item).mq, (r.epochResult item).current)
      sum := 0, count := 0, clipSeen := false, degradedSeen := false } := by
  simp [ChannelRecord.closeEpoch, h]

end

/-! ## The automatic self-check (R35) -/

section
variable {interval : Nat} {c : Conditioner}

/-- R35: with a check in hand nothing of it moves. -/
theorem Conditioner.autoCheck_of_inHand (h : c.selfCheck = .scheduled ∨ c.selfCheck = .running) :
    c.autoCheck interval = c := by
  rcases h with h | h <;> simp [Conditioner.autoCheck, h]

/-- R35: with none in hand the count rises, and reaching a non-zero interval schedules a check. -/
theorem Conditioner.autoCheck_of_none (h : c.selfCheck = .none ∨ c.selfCheck = .pass ∨ c.selfCheck = .fail) :
    c.autoCheck interval =
      if interval ≠ 0 ∧ interval ≤ min 3600 (c.autoCount + 1) then
        { c with autoCount := min 3600 (c.autoCount + 1), selfCheck := .scheduled, origin := some .automatic }
      else { c with autoCount := min 3600 (c.autoCount + 1) } := by
  rcases h with h | h | h <;> simp [Conditioner.autoCheck, h]

/-- R35: the automatic self-check moves the self-check's own fields alone, and not the verdict. -/
theorem Conditioner.autoCheck_eq (interval : Nat) (c : Conditioner) :
    c.autoCheck interval = { c with
      selfCheck := (c.autoCheck interval).selfCheck
      origin := (c.autoCheck interval).origin
      autoCount := (c.autoCheck interval).autoCount } := by
  unfold Conditioner.autoCheck
  split
  · rfl
  · rfl
  all_goals simp only []; split <;> rfl

/-- R35: the automatic self-check at an epoch completion, clause by clause. -/
theorem Conditioner.autoCheck_clauses (interval : Nat) (c : Conditioner) :
    (c.autoCheck interval).verdict = c.verdict ∧
      (c.selfCheck = .scheduled ∨ c.selfCheck = .running →
        (c.autoCheck interval).selfCheck = c.selfCheck ∧ (c.autoCheck interval).autoCount = c.autoCount ∧
          (c.autoCheck interval).origin = c.origin) ∧
      (c.selfCheck = .none ∨ c.selfCheck = .pass ∨ c.selfCheck = .fail →
        (c.autoCheck interval).autoCount = min 3600 (c.autoCount + 1) ∧
        (interval ≠ 0 ∧ interval ≤ min 3600 (c.autoCount + 1) →
          (c.autoCheck interval).selfCheck = .scheduled ∧ (c.autoCheck interval).origin = some .automatic) ∧
        (interval = 0 ∨ min 3600 (c.autoCount + 1) < interval →
          (c.autoCheck interval).selfCheck = c.selfCheck ∧ (c.autoCheck interval).origin = c.origin)) := by
  refine ⟨by rw [autoCheck_eq], fun h => ?_, fun h => ?_⟩
  · rw [autoCheck_of_inHand h]
    exact ⟨rfl, rfl, rfl⟩
  · rw [autoCheck_of_none h]
    refine ⟨by split <;> rfl, fun hdue => ?_, fun hnot => ?_⟩
    · rw [if_pos hdue]
      exact ⟨rfl, rfl⟩
    · rw [if_neg (by omega)]
      exact ⟨rfl, rfl⟩

end

/-- R25: the Conditioner's own steps close every channel's epoch. -/
theorem State.closeEpoch_channel (s : State) (i : Fin 16) :
    s.closeEpoch.cond.channels.get i = (s.cond.channels.get i).closeEpoch (s.store.applied.channels.get i) := by
  simp only [State.closeEpoch]
  rw [Conditioner.autoCheck_eq]
  simp [State.applied]

/-! ## The notices and the entries of a record (R22 to R24, R165) -/

/-- An arriving notice leaves those already queued where they stand (R165). -/
theorem NoticeQueue.front_arrive (q : NoticeQueue) (n : Notice) : q.queue <+: (q.arrive n).queue := by
  rcases q.arrive_cases n with ⟨-, e⟩ | ⟨-, e⟩ <;> rw [e]
  exact ⟨_, rfl⟩

/-- What stands at the front of the queue stays there when notices are queued (R165). -/
theorem State.front_notifyAll {q : List Notice} (bs : List NoticeBody) : ∀ s : State,
    q <+: s.notices.queue → q <+: (s.notifyAll bs).notices.queue := by
  induction bs with
  | nil => intro s h; exact h
  | cons b bs ih => intro s h; exact ih (s.notify b) (h.trans (s.notices.front_arrive _))

/-- A notice queued after others of the same epoch is told since before them (R165). -/
theorem State.told_notify {s u : State} (b : NoticeBody) (hfront : s.notices.queue <+: u.notices.queue)
    (hepoch : u.cond.epochNumber = s.cond.epochNumber) : s.told (u.notify b) b := by
  unfold State.told
  rw [← hepoch]
  refine (u.notices.arrive_mem _).imp_left fun h => ?_
  exact List.drop_subset_drop_left _ hfront.length_le h

/-- R22 to R24: the entries of a record move the channel records alone among what the Conditioner holds. -/
theorem State.takeEntries_cond (c : Cycle) (xs : List ChannelSums) : ∀ s : State,
    (xs.foldl (State.takeEntry c) s).cond =
      { s.cond with channels := (xs.foldl (State.takeEntry c) s).cond.channels } := by
  induction xs with
  | nil => intro s; rfl
  | cons x xs ih =>
    intro s
    rw [List.foldl_cons, ih]
    simp [State.takeEntry]

theorem State.front_takeEntry (c : Cycle) (s : State) (x : ChannelSums) :
    s.notices.queue <+: (s.takeEntry c x).notices.queue := by
  unfold State.takeEntry
  exact State.front_notifyAll _ _ List.prefix_rfl

theorem State.front_takeEntries (c : Cycle) (xs : List ChannelSums) : ∀ s : State,
    s.notices.queue <+: (xs.foldl (State.takeEntry c) s).notices.queue := by
  induction xs with
  | nil => intro s; exact List.prefix_rfl
  | cons x xs ih => intro s; exact (s.front_takeEntry c x).trans (ih (s.takeEntry c x))

/-! ## The verdict of a self-check (R36, R37) -/

/-- R37: what is reported is a requested check, and a changed verdict. -/
theorem checkReports_iff {origin : Option Origin} {old new : Verdict} :
    checkReports origin old new = true ↔ origin = some .request ∨ old ≠ new := by
  simp [checkReports]

section
variable {c : Cycle} (hc : c.selfCheck = true) (s : State)
include hc

/-- R36: the verdict, with the count back at 0. -/
theorem State.takeVerdict_cond :
    (s.takeVerdict c).cond = { s.cond with
      selfCheck := if checkPasses (checkMean c.refSum) (checkMean c.gndSum) then .pass else .fail
      verdict := if checkPasses (checkMean c.refSum) (checkMean c.gndSum) then .pass else .fail
      autoCount := 0, origin := none } := by
  simp only [State.takeVerdict, hc, if_true, apply_ite State.cond, notify_cond, setCond_cond, ite_self]

/-- R36: the verdict in words of its pass. -/
theorem State.takeVerdict_verdict :
    (checkPasses (checkMean c.refSum) (checkMean c.gndSum) = true →
        (s.takeVerdict c).cond.selfCheck = .pass ∧ (s.takeVerdict c).cond.verdict = .pass) ∧
      (checkPasses (checkMean c.refSum) (checkMean c.gndSum) = false →
        (s.takeVerdict c).cond.selfCheck = .fail ∧ (s.takeVerdict c).cond.verdict = .fail) := by
  rw [takeVerdict_cond hc]
  exact ⟨fun h => by simp [h], fun h => by simp [h]⟩

/-- R37: the notice is queued exactly when the check reports. -/
theorem State.takeVerdict_notices :
    (s.takeVerdict c).notices =
      if checkReports s.cond.origin s.cond.verdict (s.takeVerdict c).cond.verdict then
        (s.notify (.selfCheckResult (checkPasses (checkMean c.refSum) (checkMean c.gndSum)) (checkMean c.refSum)
          (checkMean c.gndSum))).notices
      else s.notices := by
  rw [takeVerdict_cond hc]
  simp only [State.takeVerdict, hc, if_true, apply_ite State.notices, notify_notices, setCond_notices, setCond_cond]

/-- R37: the notice of a check that reports is told since any state of this epoch before it. -/
theorem State.takeVerdict_told {before : State} (hfront : before.notices.queue <+: s.notices.queue)
    (hepoch : s.cond.epochNumber = before.cond.epochNumber)
    (hreports : s.cond.origin = some .request ∨ s.cond.verdict ≠ (s.takeVerdict c).cond.verdict) :
    before.told (s.takeVerdict c)
      (.selfCheckResult (checkPasses (checkMean c.refSum) (checkMean c.gndSum)) (checkMean c.refSum)
        (checkMean c.gndSum)) := by
  unfold State.told
  rw [takeVerdict_notices hc, if_pos (checkReports_iff.mpr hreports)]
  exact State.told_notify _ hfront hepoch

/-- R37: an automatic check that confirms the verdict queues nothing. -/
theorem State.takeVerdict_silent (hreq : s.cond.origin ≠ some .request)
    (hsame : s.cond.verdict = (s.takeVerdict c).cond.verdict) : (s.takeVerdict c).notices = s.notices := by
  rw [takeVerdict_notices hc, if_neg]
  exact fun h => (checkReports_iff.mp h).elim hreq (absurd hsame)

end

/-! ## When a completion occurs -/

theorem State.isRunning_iff (s : State) : s.isRunning = true ↔ s.time.phase = .running := by
  simp [State.isRunning]

/-- A cycle that completes now is due (R18). -/
theorem State.completionDue_of_completes {s : State} {c : Cycle} (h : s.completes c) : s.completionDue = true := by
  obtain ⟨hrun, hcycle, hticks, hslot, hconv, hflight, hepoch⟩ := h
  have hdue : s.epochDue = false := by simp [State.epochDue]; omega
  simp [State.completionDue, s.isRunning_iff.mpr hrun, hcycle, hflight, Flight.none, hdue, Cycle.completionDue, hticks,
    hslot, hconv]

/-- What the delivery of the record of `c` puts between blocks: `parts` and `entries` are what waits of it
(R18, R31). -/
def State.flightOf (s : State) (c : Cycle) (parts : List CompletionPart) (entries : List ChannelSums) : Flight :=
  { Flight.none with parts := parts, entries := entries, steps := s.stepTriggers c }

/-- A cycle that completes now is delivered, and its parts are then taken (R18). -/
theorem exec_cycleCompletion_of_completes {s : State} {c : Cycle} (h : s.completes c) (order : List CompletionPart)
    (whole hrdy : Bool) :
    exec (.cycleCompletion order whole hrdy) s =
      .next ((s.setFlight (s.flightOf c cycleParts c.sums)).runCycleParts order whole hrdy) := by
  have hdue := State.completionDue_of_completes h
  obtain ⟨-, hcycle, -, -, -, hflight, -⟩ := h
  simp [exec, execCycleCompletion, hdue, State.deliver, hcycle, hflight, State.flightOf]

/-- A part that waits, with nothing outstanding that it must follow, is taken. -/
theorem State.takePart_of_waiting {s : State} {p : CompletionPart} (hwaits : waitsAs p ∈ s.flight.parts)
    (hfree : ∀ q ∈ mustFollow p, q ∉ s.flight.parts) (hrdy : Bool) :
    s.takePart hrdy p =
      (s.setFlight { s.flight with parts := s.flight.parts.filter (· ≠ p) }).runPart hrdy p :=
  if_pos ⟨hwaits, hfree⟩

/-- The Conditioner's part, with a cycle to complete (R22 to R25, R36). -/
theorem State.takeRecord_of_cycle {s : State} {c : Cycle} (h : s.scanner.cycle = some c) :
    s.takeRecord =
      let u := (s.flight.entries.foldl (State.takeEntry c) (s.setFlight { s.flight with entries := [] })).takeVerdict c
      u.setCond { u.cond with epochCycles := u.cond.epochCycles + 1 } := by
  simp only [State.takeRecord, h]

/-- The Conditioner's part of a cycle completion: the entries, the verdict, and the epoch cycle counter
(R22 to R25, R36). -/
theorem exec_entries_of_completes {s : State} {c : Cycle} (h : s.completes c) (hrdy : Bool) :
    exec (.cycleCompletion [.entries] false hrdy) s =
      let u := (c.sums.foldl (State.takeEntry c)
        (s.setFlight (s.flightOf c [.steps, .frame, .count, .start] []))).takeVerdict c
      .next (u.setCond { u.cond with epochCycles := u.cond.epochCycles + 1 }) := by
  have hfree : ∀ q ∈ mustFollow .entries, q ∉ cycleParts := by decide
  have ⟨_, hcycle, _⟩ := h
  calc exec (.cycleCompletion [.entries] false hrdy) s
      = .next ((s.setFlight (s.flightOf c cycleParts c.sums)).takePart hrdy .entries) :=
        exec_cycleCompletion_of_completes h [.entries] false hrdy
    _ = .next (s.setFlight (s.flightOf c [.steps, .frame, .count, .start] c.sums)).takeRecord :=
        congrArg Host.Outcome.next (State.takePart_of_waiting (by decide : _ ∈ cycleParts) hfree hrdy)
    _ = _ := congrArg Host.Outcome.next (State.takeRecord_of_cycle hcycle)

/-- An epoch that completes now is raised, and its parts are then taken (R25). -/
theorem exec_epochCompletion_of_completes {s : State} (h : s.epochCompletes) (order : List CompletionPart)
    (whole hrdy : Bool) :
    exec (.epochCompletion order whole hrdy) s = .next (s.raiseEpoch.runEpochParts order whole hrdy) := by
  obtain ⟨hrun, hepoch, -, -, -, hparts⟩ := h
  have hsettings : .settings ∉ s.flight.parts := fun hm => by simpa using hparts _ hm
  simp [exec, execEpochCompletion, State.epochInFlight, hsettings, s.isRunning_iff.mpr hrun, State.epochDue, hepoch]

/-! ## What the parts of a completion leave alone -/

@[simp] theorem State.hearChange_parts (t : Fin 8) (s : State) : (s.hearChange t).flight.parts = s.flight.parts := by
  unfold State.hearChange; simp only []; repeat' split
  all_goals simp

@[simp] theorem State.stepThermal_parts (t : Fin 8) (s : State) : (s.stepThermal t).flight.parts = s.flight.parts := by
  unfold State.stepThermal; simp only []; repeat' split
  all_goals simp

@[simp] theorem State.gradeOn_parts (t : Fin 8) (h : Handed) (s : State) :
    (s.gradeOn t h).flight.parts = s.flight.parts := by
  unfold State.gradeOn; simp only []; split <;> simp [State.levelChange]

@[simp] theorem State.gradeSlot_parts (t : Fin 8) (s : State) : (s.gradeSlot t).flight.parts = s.flight.parts := by
  unfold State.gradeSlot; simp only []; repeat' split
  all_goals simp

@[simp] theorem State.takeRecord_parts (s : State) : s.takeRecord.flight.parts = s.flight.parts := by
  unfold State.takeRecord; split <;> simp

@[simp] theorem State.takeNextEntry_parts (s : State) : s.takeNextEntry.flight.parts = s.flight.parts := by
  unfold State.takeNextEntry; split <;> simp

@[simp] theorem State.countCompletion_parts (s : State) : s.countCompletion.flight.parts = s.flight.parts := by
  simp [State.countCompletion]

@[simp] theorem State.startNext_parts (s : State) : s.startNext.flight.parts = s.flight.parts := by
  unfold State.startNext; split <;> simp

@[simp] theorem State.takeNextStep_parts (hrdy : Bool) (s : State) :
    (s.takeNextStep hrdy).flight.parts = s.flight.parts := by
  unfold State.takeNextStep; split <;> simp

@[simp] theorem State.takeNextStep_store (hrdy : Bool) (s : State) : (s.takeNextStep hrdy).store = s.store := by
  unfold State.takeNextStep; split <;> simp

@[simp] theorem State.takeNextStep_cond (hrdy : Bool) (s : State) : (s.takeNextStep hrdy).cond = s.cond := by
  unfold State.takeNextStep; split <;> simp

@[simp] theorem State.takeNextLevel_parts (hrdy : Bool) (s : State) :
    (s.takeNextLevel hrdy).flight.parts = s.flight.parts := by
  unfold State.takeNextLevel; split <;> simp

@[simp] theorem State.takeNextLevel_store (hrdy : Bool) (s : State) : (s.takeNextLevel hrdy).store = s.store := by
  unfold State.takeNextLevel; split <;> simp

@[simp] theorem State.takeNextLevel_cond (hrdy : Bool) (s : State) : (s.takeNextLevel hrdy).cond = s.cond := by
  unfold State.takeNextLevel; split <;> simp

@[simp] theorem State.startCycle_channels (number : Count32) (g : CycleStart) (s : State) :
    (s.startCycle number g).cond.channels = s.cond.channels := by
  unfold State.startCycle; simp only []; split <;> rfl

@[simp] theorem State.startNext_channels (s : State) : s.startNext.cond.channels = s.cond.channels := by
  unfold State.startNext; split <;> simp

/-- R145: without a sealed set the Store makes nothing of an epoch completion. -/
theorem State.takeEpoch_of_unsealed {s : State} (h : s.store.isSealed = false) : s.takeEpoch = s := by
  simp [State.takeEpoch, h]

section
variable {s : State} (hrdy : Bool) (hseal : s.store.isSealed = false)
include hseal

theorem State.runPart_parts (p : CompletionPart) : (s.runPart hrdy p).flight.parts = s.flight.parts := by
  cases p with
  | settings => exact congrArg (·.flight.parts) (takeEpoch_of_unsealed hseal)
  | _ => simp [State.runPart]

theorem State.runPart_store (p : CompletionPart) : (s.runPart hrdy p).store = s.store := by
  cases p with
  | settings => exact congrArg State.store (takeEpoch_of_unsealed hseal)
  | _ => simp [State.runPart]

/-- Among the parts only the entries of a record and the apply of a sealed set reach the channel records. -/
theorem State.runPart_channels {p : CompletionPart} (hp : waitsAs p ≠ .entries) :
    (s.runPart hrdy p).cond.channels = s.cond.channels := by
  cases p with
  | entries => exact absurd rfl hp
  | nextEntry => exact absurd rfl hp
  | settings => exact congrArg (·.cond.channels) (takeEpoch_of_unsealed hseal)
  | _ => simp [State.runPart]

end

/-- No part that waits reaches the channel records: the entries have been taken, and no set is sealed. -/
def State.channelsStand (s : State) : Prop := s.store.isSealed = false ∧ .entries ∉ s.flight.parts

/-- A part taken while the channel records stand leaves them standing, with the same records. -/
theorem State.takePart_channelsStand {s : State} (h : s.channelsStand) (hrdy : Bool) (p : CompletionPart) :
    (s.takePart hrdy p).channelsStand ∧ (s.takePart hrdy p).cond.channels = s.cond.channels := by
  obtain ⟨hseal, hentries⟩ := h
  unfold State.takePart
  split
  · next hwaits =>
    have hp : waitsAs p ≠ .entries := fun e => hentries (e ▸ hwaits.1)
    have hseal' : (s.setFlight { s.flight with parts := s.flight.parts.filter (· ≠ p) }).store.isSealed = false :=
      hseal
    refine ⟨⟨?_, ?_⟩, runPart_channels hrdy hseal' hp⟩
    · rw [runPart_store hrdy hseal']; exact hseal
    · rw [runPart_parts hrdy hseal']; exact fun hm => hentries (List.mem_of_mem_filter hm)
  · exact ⟨⟨hseal, hentries⟩, rfl⟩

theorem State.takeParts_channelsStand (hrdy : Bool) (order : List CompletionPart) : ∀ {s : State}, s.channelsStand →
    (s.takeParts hrdy order).channelsStand ∧ (s.takeParts hrdy order).cond.channels = s.cond.channels := by
  induction order with
  | nil => intro s h; exact ⟨h, rfl⟩
  | cons p order ih =>
    intro s h
    obtain ⟨hstand, hchannels⟩ := takePart_channelsStand h hrdy p
    obtain ⟨hstand', hchannels'⟩ := ih hstand
    exact ⟨hstand', hchannels'.trans hchannels⟩

/-- Taking parts of an epoch completion leaves the channel records standing. -/
theorem State.runEpochParts_channels {s : State} (h : s.channelsStand) (order : List CompletionPart)
    (whole hrdy : Bool) : (s.runEpochParts order whole hrdy).cond.channels = s.cond.channels := by
  obtain ⟨hstand, hchannels⟩ := takeParts_channelsStand hrdy order h
  unfold State.runEpochParts
  simp only []
  split
  · exact (takeParts_channelsStand hrdy _ hstand).2.trans hchannels
  · exact hchannels

/-- Once an epoch completion without a sealed set is raised, nothing reaches the channel records (R49). -/
theorem State.raiseEpoch_channelsStand {s : State} (h : s.epochCompletes) (hseal : s.store.isSealed = false) :
    s.raiseEpoch.channelsStand := by
  obtain ⟨-, -, -, -, -, hparts⟩ := h
  refine ⟨hseal, fun hm => ?_⟩
  rcases List.mem_append.mp hm with hm | hm
  · simpa using hparts _ hm
  · simp [epochParts] at hm

/-- R26 to R28: an epoch completion without a sealed set closes every channel's epoch, whatever the order of its
parts. -/
theorem epochCompletion_channel {s t : State} (h : s.epochCompletes) (hseal : s.store.isSealed = false)
    {order : List CompletionPart} {whole hrdy : Bool} (ht : exec (.epochCompletion order whole hrdy) s = .next t)
    (i : Fin 16) :
    t.cond.channels.get i = (s.cond.channels.get i).closeEpoch (s.store.applied.channels.get i) := by
  rw [exec_epochCompletion_of_completes h] at ht
  cases ht
  rw [State.runEpochParts_channels (State.raiseEpoch_channelsStand h hseal)]
  exact s.closeEpoch_channel i

/-! ## The obligations -/

/-- Settles O12: the verdict is read off the Conditioner's part of the cycle completion, whose entries move neither the
origin nor the last verdict, and the automatic check off its own steps of the epoch completion. -/
theorem selfCheckVerdictAndSchedule : Obligations.SelfCheckVerdictAndSchedule := by
  unfold Obligations.SelfCheckVerdictAndSchedule
  constructor
  · intro s c hrdy hcompletes hcheck
    refine ⟨_, exec_entries_of_completes hcompletes hrdy, ?_⟩
    generalize hstart : s.setFlight (s.flightOf c _ []) = start
    have hstartCond : start.cond = s.cond := by rw [← hstart]; rfl
    have hstartNotices : start.notices = s.notices := by rw [← hstart]; rfl
    generalize hu : c.sums.foldl (State.takeEntry c) start = u
    have hcond : u.cond = { s.cond with channels := u.cond.channels } := by
      rw [← hu, State.takeEntries_cond, hstartCond]
    have hfront : s.notices.queue <+: u.notices.queue := by
      rw [← hu, ← hstartNotices]
      exact State.front_takeEntries c c.sums start
    have horigin : u.cond.origin = s.cond.origin := by rw [hcond]
    have hverdict : u.cond.verdict = s.cond.verdict := by rw [hcond]
    obtain ⟨hpass, hfail⟩ := State.takeVerdict_verdict hcheck u
    refine ⟨by simp [State.takeVerdict_cond hcheck], hpass, hfail, ?_, ?_⟩
    · rw [← horigin, ← hverdict]
      exact State.takeVerdict_told hcheck u hfront (by rw [hcond])
    · rw [← horigin, ← hverdict]
      intro hreq hsame hsums
      rw [State.setCond_notices, State.takeVerdict_silent hcheck u hreq hsame, ← hu, hsums, List.foldl_nil,
        hstartNotices]
  · intro s hrdy hcompletes
    exact ⟨_, exec_epochCompletion_of_completes hcompletes [] false hrdy, Conditioner.autoCheck_clauses _ _⟩

/-- Settles O17: the record of each channel is what closing its epoch makes of it, and the epoch result is then a case
split on whether a cycle contributed. -/
theorem channelResultsOfAnEpoch : Obligations.ChannelResultsOfAnEpoch := by
  unfold Obligations.ChannelResultsOfAnEpoch
  intro s order hrdy i hcompletes hseal henabled hitem hsum
  have hexec := exec_epochCompletion_of_completes hcompletes order true hrdy
  refine ⟨_, hexec, ?_⟩
  rw [epochCompletion_channel hcompletes hseal hexec i, ChannelRecord.closeEpoch_of_enabled henabled]
  refine ⟨rfl, rfl, rfl, rfl, rfl, rfl, rfl, rfl, ChannelRecord.epochResult_k, fun hk => ?_, fun hk => ?_⟩
  · obtain ⟨hmq, hround, hlo, hhi⟩ := ChannelRecord.epochResult_bounds hitem hk hsum
    have hvalid := ChannelRecord.epochResult_of_count (item := s.store.applied.channels.get i) hk
    exact ⟨congrArg ChannelResult.mq hvalid, hmq, hround, hlo, hhi, congrArg ChannelResult.clipped hvalid,
      congrArg ChannelResult.degraded hvalid, congrArg ChannelResult.held hvalid,
      congrArg ChannelResult.neverValid hvalid, if_neg (by omega)⟩
  · obtain ⟨hheld, hclipped, hdegraded, -⟩ := ChannelRecord.epochResult_held hk
    refine ⟨hheld, hclipped, hdegraded, if_pos hk, fun mq cur hv => ?_, fun hv => ?_⟩
    · rw [ChannelRecord.epochResult_of_valid hk hv]
      exact ⟨rfl, rfl, rfl⟩
    · rw [ChannelRecord.epochResult_of_never hk hv]
      exact ⟨rfl, rfl, rfl⟩

end Sys2Proof.Machine

/-! The Transformer Table (chapter 3 of the manual): one part of an epoch completion taken alone, the clamp of the
effective current, and the effective current of a slot with its quality flags. -/

namespace Sys2Proof.Machine

/-! ## One part of an epoch completion that is under way -/

/-- Taken alone, a part that an epoch completion awaits is what the block concerned makes of it (R25, R49). -/
theorem exec_epochCompletion_of_awaits {s : State} {p : CompletionPart} (h : s.awaits p) (hwhole : waitsAs p = p)
    (hrdy : Bool) :
    exec (.epochCompletion [p] false hrdy) s =
      .next ((s.setFlight { s.flight with parts := s.flight.parts.filter (· ≠ p) }).runPart hrdy p) := by
  obtain ⟨hrun, hsettings, hwaits, hfree⟩ := h
  have hflight : s.epochInFlight = true := by simp [State.epochInFlight, s.isRunning_iff.mpr hrun, hsettings]
  calc exec (.epochCompletion [p] false hrdy) s
      = .next (s.takePart hrdy p) := congrArg Host.Outcome.next (if_pos hflight)
    _ = _ := congrArg Host.Outcome.next (State.takePart_of_waiting (hwhole.symm ▸ hwaits) hfree hrdy)

/-! ## The effective current (R44 to R46) -/

/-- Clamping brings what lies above the range to its upper end. -/
theorem clampInt_of_above {lo hi x : Int} (hrange : lo ≤ hi) (hx : hi < x) : clampInt lo hi x = hi := by
  unfold clampInt
  rw [if_neg (by omega), if_pos hx]

/-- Clamping brings what lies below the range to its lower end. -/
theorem clampInt_of_below {lo hi x : Int} (hx : x < lo) : clampInt lo hi x = lo := if_pos hx

/-- R45: below 32767 and a half dA in magnitude the clamp does not act. -/
theorem effectiveCurrent_roundedAway {x : Int} (hx : x.natAbs < 32767 * 1024 + 512) :
    roundedAway x 1024 (effectiveCurrent x) := by
  have hb : (roundHalfAway x 1024).natAbs ≤ 32767 := roundHalfAway_natAbs_le (by decide) (by omega)
  have hclamp : effectiveCurrent x = roundHalfAway x 1024 := clampInt_of_within (by omega) (by omega)
  rw [hclamp]
  exact roundHalfAway_roundedAway x (by decide)

/-- R45: from 32767 and a half dA up, where the half rounds away, the upper end stands. -/
theorem effectiveCurrent_of_high {x : Int} (hx : 32767 * 1024 + 512 ≤ x) : effectiveCurrent x = 32767 := by
  obtain ⟨hnear, htie⟩ := roundHalfAway_roundedAway x (y := 1024) (by decide)
  exact clampInt_of_above (by decide) (by omega)

/-- R45: from 32767 and a half dA down in the negative, the lower end stands. -/
theorem effectiveCurrent_of_low {x : Int} (hx : x ≤ -(32767 * 1024 + 512)) : effectiveCurrent x = -32767 := by
  obtain ⟨hnear, htie⟩ := roundHalfAway_roundedAway x (y := 1024) (by decide)
  exact clampInt_of_below (by omega)

/-- R43: the current of a defined slot is formed from its own terms, and no other slot moves. -/
theorem State.formCurrent_of_defined {s : State} {u : Fin 8} (h : s.isDefined u = true) :
    s.formCurrent u = s.setSlots (s.slots.set u { s.slots.get u with
      cur := slotCurrent s.cond.channels (s.applied.transformers.get u).terms }) :=
  if_pos h

/-- R43 to R46: taken alone, the forming of a defined slot's current sets it from the slot's terms, and the part waits
no longer. -/
theorem exec_current_of_awaits {s : State} {u : Fin 8} (h : s.awaits (.current u)) (hdefined : s.isDefined u = true)
    (hrdy : Bool) :
    exec (.epochCompletion [.current u] false hrdy) s = .next { s with
      slots := s.slots.set u { s.slots.get u with
        cur := slotCurrent s.cond.channels (s.applied.transformers.get u).terms }
      flight := { s.flight with parts := s.flight.parts.filter (· ≠ .current u) } } :=
  (exec_epochCompletion_of_awaits h rfl hrdy).trans (congrArg Host.Outcome.next (State.formCurrent_of_defined hdefined))

/-! ## The obligation -/

/-- Settles O18: the part taken alone sets the slot's current, whose value is then the rounding and the clamp of X, and
whose flags are those of the terms' results. -/
theorem effectiveCurrentOfASlot : Obligations.EffectiveCurrentOfASlot := by
  unfold Obligations.EffectiveCurrentOfASlot
  intro s u hrdy hawaits hdefined
  refine ⟨_, exec_current_of_awaits hawaits hdefined hrdy, rfl, by simp only [Table.get_set_self], ?_⟩
  simp only [Table.get_set_self]
  exact ⟨effectiveCurrent_roundedAway, effectiveCurrent_of_high, effectiveCurrent_of_low,
    List.any_eq_true, List.any_eq_true, List.any_eq_true⟩

end Sys2Proof.Machine

/-! The Thermal and Exposure Unit (chapter 4 of the manual): the target that a curve gives, the rise step toward it and the
exposure, the thermal step of a slot taken alone, and the requests PRESET THERMAL and CLEAR EXPOSURE. -/

namespace Sys2Proof.Machine

/-! ## Rounding (scope 6.2) -/

theorem roundHalfUp_roundedUp (x : Nat) {y : Nat} (hy : 0 < y) : roundedUp x y (roundHalfUp x y) := by
  obtain ⟨hle, hlt⟩ := roundHalfUp_bounds x hy
  constructor <;> nlinarith

/-- A quotient of at most a whole number rounds half up to at most that number. -/
theorem roundHalfUp_le {x y b : Nat} (hy : 0 < y) (hx : x ≤ b * y) : roundHalfUp x y ≤ b :=
  Nat.lt_succ_iff.mp ((Nat.div_lt_iff_lt_mul (by omega)).mpr (by rw [Nat.succ_eq_add_one]; nlinarith))

/-- The model's ceiling is Mathlib's. -/
theorem ceilDiv_le_iff {x y q : Nat} (hy : 0 < y) : ceilDiv x y ≤ q ↔ x ≤ q * y := by
  rw [mul_comm]
  exact ceilDiv_le_iff_le_mul hy

theorem ceilDiv_isCeiling (x : Nat) {y : Nat} (hy : 0 < y) : isCeiling x y (ceilDiv x y) :=
  ⟨(ceilDiv_le_iff hy).mp le_rfl, fun _ => (ceilDiv_le_iff hy).mpr⟩

theorem ceilDiv_pos {x y : Nat} (hx : 0 < x) (hy : 0 < y) : 0 < ceilDiv x y :=
  Nat.pos_of_ne_zero fun h => by
    have := (ceilDiv_le_iff (q := 0) hy).mp h.le
    omega

theorem ceilDiv_le_self (x : Nat) {y : Nat} (hy : 0 < y) : ceilDiv x y ≤ x :=
  (ceilDiv_le_iff hy).mpr (Nat.le_mul_of_pos_right x hy)

/-! ## The target of a curve (R58, R59) -/

section
variable {prev p q b : Breakpoint} {a : Nat} {curve before after : List Breakpoint}

theorem targetFrom_cons_of_lt (h : a < p.current) : targetFrom prev a (p :: after) =
    prev.rise + roundHalfUp ((a - prev.current) * (p.rise - prev.rise)) (p.current - prev.current) :=
  if_pos h

theorem targetFrom_cons_of_le (h : p.current ≤ a) : targetFrom prev a (p :: after) = targetFrom p a after :=
  if_neg (Nat.not_lt.mpr h)

/-- Points whose currents the current has reached are passed: the curve is read on from the last of them. -/
theorem targetFrom_append_of_le (hbefore : ∀ b ∈ before, b.current ≤ a) (hp : p.current ≤ a) :
    targetFrom prev a (before ++ p :: after) = targetFrom p a after := by
  induction before generalizing prev with
  | nil => exact targetFrom_cons_of_le hp
  | cons b rest ih =>
    obtain ⟨hb, hrest⟩ := List.forall_mem_cons.mp hbefore
    exact (targetFrom_cons_of_le hb).trans (ih hrest)

/-- On a curve that is in order, the points before one whose current is reached are reached as well. -/
theorem curveOk.reached (h : curveOk (before ++ p :: after)) (hp : p.current ≤ a) : ∀ b ∈ before, b.current ≤ a := by
  obtain ⟨-, hordered⟩ := h
  intro b hb
  obtain ⟨hcurrent, -⟩ := (List.pairwise_append.mp hordered).2.2 b hb p List.mem_cons_self
  exact hcurrent.le.trans hp

/-- R59: from the last breakpoint's current up the target is its rise. -/
theorem curveTarget_of_last (hok : curveOk curve) (hlast : curve.getLast? = some b) (hb : b.current ≤ a) :
    curveTarget curve a = b.rise := by
  obtain ⟨before, rfl⟩ := List.getLast?_eq_some_iff.mp hlast
  exact targetFrom_append_of_le (hok.reached hb) hb

/-- R59: between two neighbours, of which the implicit point (0, 0) may be the first, the target is read off the segment
between them. -/
theorem curveTarget_of_between (hok : curveOk curve)
    (hcurve : { current := 0, rise := 0 } :: curve = before ++ p :: q :: after) (hp : p.current ≤ a)
    (hq : a < q.current) : curveTarget curve a =
      p.rise + roundHalfUp ((a - p.current) * (q.rise - p.rise)) (q.current - p.current) := by
  cases before with
  | nil =>
    obtain ⟨rfl, rfl⟩ := List.cons.inj hcurve
    exact targetFrom_cons_of_lt hq
  | cons origin passed =>
    obtain ⟨-, rfl⟩ := List.cons.inj hcurve
    exact (targetFrom_append_of_le (hok.reached hp) hp).trans (targetFrom_cons_of_lt hq)

/-- A target does not exceed a bound of all rises: on a segment it stays at or below the rise of the segment's end. -/
theorem targetFrom_le {m : Nat} (hreached : prev.current ≤ a) (hprev : prev.rise ≤ m)
    (hcurve : ∀ b ∈ curve, b.rise ≤ m) : targetFrom prev a curve ≤ m := by
  induction curve generalizing prev with
  | nil => exact hprev
  | cons p rest ih =>
    obtain ⟨hp, hrest⟩ := List.forall_mem_cons.mp hcurve
    rcases Nat.lt_or_ge a p.current with hlt | hge
    · have hsegment : (a - prev.current) * (p.rise - prev.rise) ≤ (p.rise - prev.rise) * (p.current - prev.current) := by
        rw [mul_comm]
        exact Nat.mul_le_mul_left _ (by omega)
      have hstep := roundHalfUp_le (by omega) hsegment
      rw [targetFrom_cons_of_lt hlt]
      omega
    · rw [targetFrom_cons_of_le hge]
      exact ih hge hp hrest

/-- R60: no target of a curve in range is above 60000 cK. -/
theorem curveTarget_le (h : curveInRange curve) (a : Nat) : curveTarget curve a ≤ 60000 := by
  obtain ⟨-, hpoints⟩ := h
  exact targetFrom_le a.zero_le (Nat.zero_le _) fun b hb => (hpoints b hb).2.2

theorem topRise_of_last (h : curve.getLast? = some b) : topRise curve = b.rise := by
  rw [topRise, h]
  rfl

end

/-! ## The rise step (R60) -/

section
variable {item : TransformerItem} {t r : Nat}

/-- At its target the rise stands. -/
theorem riseStep_of_eq (h : r = t) : riseStep item t r = r := by
  have hstay : ceilDiv 0 item.tauDown = 0 := by
    rcases Nat.eq_zero_or_pos item.tauDown with hzero | hpos
    · rw [hzero]; rfl
    · exact Nat.le_zero.mp (ceilDiv_le_self 0 hpos)
  rw [riseStep, h, if_neg (lt_irrefl t), Nat.sub_self, hstay, Nat.sub_zero]

/-- Below its target the rise climbs by the ceiling over τ_up, by at least 1 and not past the target. -/
theorem riseStep_of_lt (hitem : item.inRange) (h : r < t) : ∃ d, isCeiling (t - r) item.tauUp d ∧
    riseStep item t r = r + d ∧ r < riseStep item t r ∧ riseStep item t r ≤ t := by
  obtain ⟨-, -, hup, -, -, -, -⟩ := hitem
  have hstep : riseStep item t r = r + ceilDiv (t - r) item.tauUp := if_pos h
  have hpos := ceilDiv_pos (Nat.sub_pos_of_lt h) hup
  have hle := ceilDiv_le_self (t - r) hup
  exact ⟨_, ceilDiv_isCeiling _ hup, hstep, by omega, by omega⟩

/-- Above its target the rise falls by the ceiling over τ_down, by at least 1 and not past the target. -/
theorem riseStep_of_gt (hitem : item.inRange) (h : t < r) : ∃ d, isCeiling (r - t) item.tauDown d ∧
    riseStep item t r + d = r ∧ riseStep item t r < r ∧ t ≤ riseStep item t r := by
  obtain ⟨-, -, -, -, hdown, -, -⟩ := hitem
  have hstep : riseStep item t r = r - ceilDiv (r - t) item.tauDown := if_neg h.not_gt
  have hpos := ceilDiv_pos (Nat.sub_pos_of_lt h) hdown
  have hle := ceilDiv_le_self (r - t) hdown
  exact ⟨_, ceilDiv_isCeiling _ hdown, by omega, by omega, by omega⟩

/-- The rise stays below any bound of the rise and its target. -/
theorem riseStep_le {m : Nat} (hitem : item.inRange) (ht : t ≤ m) (hr : r ≤ m) : riseStep item t r ≤ m := by
  rcases lt_trichotomy r t with hlt | heq | hgt
  · obtain ⟨-, -, -, -, hle⟩ := riseStep_of_lt hitem hlt
    exact hle.trans ht
  · exact (riseStep_of_eq heq).trans_le hr
  · obtain ⟨-, -, -, hlt, -⟩ := riseStep_of_gt hitem hgt
    exact hlt.le.trans hr

end

/-! ## The thermal step (R57, R62, R63) -/

/-- R63: after the step the mark stands exactly at the maximum. -/
theorem Thermal.step_satReported {item : TransformerItem} {curve : List Breakpoint} {a : Nat} {x : Thermal}
    (h : x.sound) : (x.step item curve a).satReported = true ↔ (x.step item curve a).exposure = 4294967295 := by
  obtain ⟨-, -, -, hmark⟩ := h
  have hmax : x.satReported = true → exposureStep item.floor a x.exposure = exposureMax := by
    intro hset
    rw [exposureStep, hmark hset]
    exact min_eq_left (Nat.le_add_right _ _)
  show (x.satReported || exposureStep item.floor a x.exposure == exposureMax) = true ↔
    exposureStep item.floor a x.exposure = exposureMax
  rw [Bool.or_eq_true, beq_iff_eq]
  exact ⟨fun h => h.elim hmax id, .inr⟩

theorem Thermal.reports_iff {x y : Thermal} :
    x.reports y = true ↔ y.exposure = 4294967295 ∧ x.satReported = false := by
  simp [Thermal.reports, exposureMax]

/-- The thermal record that slot `u` has after its thermal step. -/
def State.thermalAfter (s : State) (u : Fin 8) : Thermal :=
  (s.slots.get u).thermal.step (s.applied.transformers.get u) (s.applied.curves.get u) (s.slots.get u).cur.ieff.natAbs

/-- R57, R63, R64: taken alone, the thermal step of a defined slot replaces its thermal record, queues EXPOSURE SATURATED
if the step reports it, and hands the values on; the part waits no longer. -/
theorem exec_thermal_of_awaits {s : State} {u : Fin 8} (h : s.awaits (.thermal u)) (hdefined : s.isDefined u = true)
    (hrdy : Bool) :
    exec (.epochCompletion [.thermal u] false hrdy) s = .next { s with
      slots := s.slots.set u { s.slots.get u with thermal := s.thermalAfter u }
      notices := if (s.slots.get u).thermal.reports (s.thermalAfter u) then
          s.notices.arrive { epoch := s.cond.epochNumber, body := .exposureSaturated u } else s.notices
      flight := { s.flight with
        parts := s.flight.parts.filter (· ≠ .thermal u)
        handed := s.flight.handed ++
          [{ slot := u, ieff := (s.slots.get u).cur.ieff, rise := (s.thermalAfter u).rise
             exposure := (s.thermalAfter u).exposure }] } } := by
  refine (exec_epochCompletion_of_awaits h rfl hrdy).trans (congrArg Host.Outcome.next ?_)
  refine (if_pos hdefined).trans ?_
  cases hreports : (s.slots.get u).thermal.reports (s.thermalAfter u) with
  | false => exact if_neg (ne_true_of_eq_false hreports)
  | true => exact if_pos hreports

/-! ## The obligation on the thermal step -/

/-- Settles O19: the part taken alone puts the stepped thermal record in the slot; target, rise and exposure are then
those of the curve and of the two steps, and the notice is queued exactly when the mark is newly set. -/
theorem thermalStepOfASlot : Obligations.ThermalStepOfASlot := by
  unfold Obligations.ThermalStepOfASlot
  refine ⟨?_, ?_⟩
  · intro s u hrdy hawaits hdefined hok hcurve hitem hrise
    refine ⟨_, exec_thermal_of_awaits hawaits hdefined hrdy, ?_⟩
    simp only [Table.get_set_self]
    refine ⟨fun b => curveTarget_of_last hok, ?_, riseStep_of_eq, riseStep_of_lt hitem, riseStep_of_gt hitem,
      riseStep_le hitem (curveTarget_le hcurve _) hrise, rfl⟩
    intro before after p q hpoints hp hq
    exact ⟨_, roundHalfUp_roundedUp _ (by omega), curveTarget_of_between hok hpoints hp hq⟩
  · intro s u hrdy hawaits hdefined hsound
    have hmark : (s.thermalAfter u).satReported = true ↔ (s.thermalAfter u).exposure = 4294967295 :=
      Thermal.step_satReported hsound
    refine ⟨_, exec_thermal_of_awaits hawaits hdefined hrdy, rfl, ?_⟩
    simp only [Table.get_set_self]
    refine ⟨trivial, trivial, hmark.mpr, fun hbelow => Bool.eq_false_iff.mpr (mt hmark.mp hbelow), ?_, ?_⟩
    · exact fun hmax hclear => if_pos (Thermal.reports_iff.mpr ⟨hmax, hclear⟩)
    · intro hsilent
      refine if_neg fun hreports => ?_
      obtain ⟨hmax, hclear⟩ := Thermal.reports_iff.mp hreports
      exact hsilent.elim (Bool.eq_false_iff.mp hclear) (absurd hmax)

/-! ## Slots and selectors of a request (section 11.2) -/

theorem slotOf_of_ge {n : Nat} (h : 8 ≤ n) : slotOf n = none := dif_neg (Nat.not_lt.mpr h)

@[simp] theorem slotOf_val (u : Fin 8) : slotOf u.val = some u := dif_pos u.isLt

theorem selectorOf_of_ge {n : Nat} (h : 8 ≤ n) (hall : n ≠ 255) : selectorOf n = none := by
  rw [selectorOf, if_neg hall, slotOf_of_ge h]
  rfl

@[simp] theorem selectorOf_val (u : Fin 8) : selectorOf u.val = some (.one u) := by
  rw [selectorOf, if_neg (by omega), slotOf_val]
  rfl

@[simp] theorem u8_cons_zero (b : Byte) (p : List Byte) : u8 (b :: p) 0 = b.toNat := rfl

/-- R159: a request whose owner, once it is in service, leaves every other block as in `s2` is answered from there. -/
theorem State.serve_of_owner {s s2 : State} {k : RequestKind} {owner : State → State × Answer} {tag : Byte}
    {payload : List Byte} {status : ReplyStatus} {body : List Byte} (hs : s.canServe)
    (hlength : payload.length = k.length) (howner : owner (s.enterService k.code tag payload) =
      (s2.enterService k.code tag payload, .now status body)) (hrdy : Bool) :
    s.serve k owner tag payload hrdy = s2.answered k tag payload status body hrdy :=
  (s.serve_now _ k owner tag payload hrdy status body hs hlength howner rfl).trans (State.enterService_replied ..)

/-! ## PRESET THERMAL (R65) -/

section
variable {s : State} {tag sel : Byte} {p : List Byte} {u : Fin 8}

theorem State.takePresetThermal_of_ge (h : 8 ≤ sel.toNat) :
    s.takePresetThermal (sel :: p) = (s, refuseField .presetThermal 1) := by
  rw [State.takePresetThermal, u8_cons_zero, slotOf_of_ge h]

theorem State.takePresetThermal_of_undefined (hu : sel.toNat = u.val) (h : s.isDefined u = false) :
    s.takePresetThermal (sel :: p) = (s, refuseState) := by
  simp [State.takePresetThermal, hu, h]

theorem State.takePresetThermal_of_defined (hu : sel.toNat = u.val) (h : s.isDefined u = true) :
    s.takePresetThermal (sel :: p) =
      (s.modifyThermal u (Thermal.preset (topRise (s.applied.curves.get u)) (u16 (sel :: p) 1)
        (u32 (sel :: p) 3)), doneEmpty) := by
  simp [State.takePresetThermal, hu, h]

/-- The record that PRESET THERMAL stores, with the maximum and the curve top written out (R63, R65). -/
theorem Thermal.preset_of_last {curve : List Breakpoint} {top : Breakpoint} (h : curve.getLast? = some top)
    (rise exposure : Nat) (x : Thermal) : x.preset (topRise curve) rise exposure =
      { x with rise := min rise top.rise, exposure := exposure
               satReported := if exposure < 4294967295 then false else x.satReported } := by
  rw [topRise_of_last h]
  rfl

/-! ## CLEAR EXPOSURE (R67) -/

theorem State.takeClearExposure_of_ge (h : 8 ≤ sel.toNat) (hall : sel.toNat ≠ 255) :
    s.takeClearExposure (sel :: p) = (s, refuseField .clearExposure 1) := by
  rw [State.takeClearExposure, u8_cons_zero, selectorOf_of_ge h hall]

theorem State.takeClearExposure_of_undefined (hu : sel.toNat = u.val) (h : s.isDefined u = false) :
    s.takeClearExposure (sel :: p) = (s, refuseState) := by
  simp [State.takeClearExposure, hu, h]

theorem State.takeClearExposure_of_defined (hu : sel.toNat = u.val) (h : s.isDefined u = true) :
    s.takeClearExposure (sel :: p) = (s.modifyThermal u Thermal.clear, doneEmpty) := by
  simp [State.takeClearExposure, hu, h]

/-- R67: CLEAR EXPOSURE of every slot clears each defined one, and no other. -/
theorem exec_clearExposure_of_all (hs : s.canServe) (hrdy : Bool) :
    exec (.clearExposure tag [0xFF] hrdy) s = .next ((s.setSlots (.ofFn fun t =>
      if s.isDefined t then { s.slots.get t with thermal := (s.slots.get t).thermal.clear }
      else s.slots.get t)).answered .clearExposure tag [0xFF] .done [] hrdy) :=
  congrArg Host.Outcome.next (State.serve_of_owner hs rfl rfl hrdy)

/-- R67: CLEAR EXPOSURE of one defined slot clears it, and no other. -/
theorem exec_clearExposure_of_defined (hs : s.canServe) (hu : sel.toNat = u.val)
    (h : s.isDefined u = true) (hrdy : Bool) :
    exec (.clearExposure tag [sel] hrdy) s =
      .next ((s.modifyThermal u Thermal.clear).answered .clearExposure tag [sel] .done [] hrdy) :=
  congrArg Host.Outcome.next
    (State.serve_of_owner hs rfl (State.takeClearExposure_of_defined (s := s.enterService ..) hu h) hrdy)

end

/-! ## The obligation on the requests -/

/-- Settles O44: each outcome is the answer of the unit to the request in service, by the slot or selector that it
names. -/
theorem thermalRequests : Obligations.ThermalRequests := by
  unfold Obligations.ThermalRequests
  intro s tag sel hrdy hs
  refine ⟨?_, ?_, ?_, ?_⟩
  · intro a b c d e f
    refine ⟨fun hsel => ?_, fun u hu => ⟨fun hundef => ?_, fun top hdef htop => ?_⟩⟩
    · exact congrArg Host.Outcome.next (State.serve_of_owner hs rfl (State.takePresetThermal_of_ge hsel) hrdy)
    · exact congrArg Host.Outcome.next
        (State.serve_of_owner hs rfl (State.takePresetThermal_of_undefined hu hundef) hrdy)
    · have hexpo : u32 [sel, a, b, c, d, e, f] 3 = ((c.toNat * 256 + d.toNat) * 256 + e.toNat) * 256 + f.toNat := by
        show (c.toNat * 256 + d.toNat) * 65536 + (e.toNat * 256 + f.toNat) = _
        omega
      rw [← hexpo, ← Thermal.preset_of_last htop]
      exact congrArg Host.Outcome.next
        (State.serve_of_owner hs rfl (State.takePresetThermal_of_defined (s := s.enterService ..) hu hdef) hrdy)
  · intro hsel hall
    have hne : sel.toNat ≠ 255 := fun h => hall (BitVec.eq_of_toNat_eq h)
    exact congrArg Host.Outcome.next (State.serve_of_owner hs rfl (State.takeClearExposure_of_ge hsel hne) hrdy)
  · intro u hu hundef
    exact congrArg Host.Outcome.next
      (State.serve_of_owner hs rfl (State.takeClearExposure_of_undefined hu hundef) hrdy)
  · rintro (rfl | ⟨v, hv, hdef⟩)
    · refine ⟨_, exec_clearExposure_of_all hs hrdy, rfl, fun u => ⟨fun hdef _ => ?_, fun hother => ?_⟩⟩
      · exact (Table.get_ofFn _ u).trans (if_pos hdef)
      · have hundef : s.isDefined u = false := hother.resolve_right fun h => h.1 rfl
        exact (Table.get_ofFn _ u).trans (if_neg (ne_true_of_eq_false hundef))
    · refine ⟨_, exec_clearExposure_of_defined hs hv hdef hrdy, rfl, fun u => ⟨fun _ hnamed => ?_, fun hother => ?_⟩⟩
      · have huv : u = v := by
          rcases hnamed with rfl | hu
          · exact absurd (show 255 = v.val from hv) (by omega)
          · exact Fin.ext (hu.symm.trans hv)
        subst huv
        exact Table.get_modify_self ..
      · have huv : u ≠ v := by
          rintro rfl
          rcases hother with hundef | ⟨-, hne⟩
          · exact Bool.false_ne_true (hundef.symm.trans hdef)
          · exact hne hv
        exact Table.get_modify_ne _ _ huv

end Sys2Proof.Machine

/-! The Alarm Evaluator (chapter 5 of the manual): the demand of a monitor, persistence against the live level, and the
grading of a slot taken alone. -/

namespace Sys2Proof.Machine

/-! ## The demand of a monitor (R73) -/

theorem qualifies_iff {n prev : Level} {theta h value : Nat} : qualifies n theta h value prev = true ↔
    theta ≠ 0 ∧ (theta ≤ value ∨ (n ≤ prev ∧ theta - h ≤ value)) := by
  simp [qualifies]

/-- The threshold of a level; level 0 has none, which is as one that is not used (R72). -/
def Thresholds.ofLevel (th : Thresholds) (n : Level) : Nat :=
  if n = 3 then th.l3 else if n = 2 then th.l2 else if n = 1 then th.l1 else 0

section
variable {th : Thresholds} {h value : Nat} {prev : Level}

/-- A demand other than 0 is of a level that qualifies. -/
theorem qualifies_demand (hpos : demand th h value prev ≠ 0) :
    qualifies (demand th h value prev) (th.ofLevel (demand th h value prev)) h value prev = true := by
  unfold demand at hpos ⊢
  split
  next h3 => exact h3
  next h3 =>
    split
    next h2 => exact h2
    next h2 =>
      split
      next h1 => exact h1
      next h1 => simp [h3, h2, h1] at hpos

/-- No level above the demand qualifies. -/
theorem le_demand_of_qualifies {n : Level} (hn : qualifies n (th.ofLevel n) h value prev = true) :
    n ≤ demand th h value prev := by
  unfold demand
  match n with
  | 0 => exact Fin.zero_le _
  | 1 =>
    rw [if_pos (show qualifies 1 th.l1 h value prev = true from hn)]
    split
    · decide
    · split <;> decide
  | 2 =>
    rw [if_pos (show qualifies 2 th.l2 h value prev = true from hn)]
    split <;> decide
  | 3 => rw [if_pos (show qualifies 3 th.l3 h value prev = true from hn)]

end

/-! ## Persistence (R77 to R79) -/

section
variable {g : Grade} {m : MonitorsItem} {dem : Level}

/-- A run that has not begun counts 1 as one that goes on does: one more than its count. -/
theorem runCount_eq (n : Nat) : (if n = 0 then 1 else n + 1) = n + 1 := by
  split
  next h => rw [h]
  next => rfl

/-- R77: the run up that reaches P_up raises the level to the lowest demand of the run, and ends. -/
theorem Grade.persist_of_raised (h : g.level < dem) (hrun : g.up + 1 = m.pUp) : g.persist m dem =
    { g with level := if g.up = 0 then dem else min g.upMin dem, up := 0, upMin := 0, down := 0, downMax := 0 } := by
  rw [Grade.persist, if_pos h]
  exact if_pos ((runCount_eq g.up).trans hrun)

/-- R77: the run up short of P_up goes on, with the lowest demand of the run. -/
theorem Grade.persist_of_running_up (h : g.level < dem) (hrun : g.up + 1 ≠ m.pUp) : g.persist m dem =
    { g with up := g.up + 1, upMin := if g.up = 0 then dem else min g.upMin dem, down := 0, downMax := 0 } := by
  rw [Grade.persist, if_pos h, Grade.rising, runCount_eq]
  exact if_neg hrun

/-- R78: the run down that reaches P_down lowers the level to the highest demand of the run, and ends. -/
theorem Grade.persist_of_lowered (h : dem < g.level) (hrun : g.down + 1 = m.pDown) : g.persist m dem =
    { g with level := if g.down = 0 then dem else max g.downMax dem, up := 0, upMin := 0, down := 0, downMax := 0 } := by
  rw [Grade.persist, if_neg h.not_gt, if_pos h]
  exact if_pos ((runCount_eq g.down).trans hrun)

/-- R78: the run down short of P_down goes on, with the highest demand of the run. -/
theorem Grade.persist_of_running_down (h : dem < g.level) (hrun : g.down + 1 ≠ m.pDown) : g.persist m dem =
    { g with up := 0, upMin := 0, down := g.down + 1, downMax := if g.down = 0 then dem else max g.downMax dem } := by
  rw [Grade.persist, if_neg h.not_gt, if_pos h, Grade.falling, runCount_eq]
  exact if_neg hrun

/-- R77: a demand above the level ends the run down. -/
theorem Grade.persist_ends_down (h : g.level < dem) : (g.persist m dem).down = 0 ∧ (g.persist m dem).downMax = 0 := by
  rcases eq_or_ne (g.up + 1) m.pUp with hrun | hrun
  · rw [persist_of_raised h hrun]
    exact ⟨rfl, rfl⟩
  · rw [persist_of_running_up h hrun]
    exact ⟨rfl, rfl⟩

/-- R78: a demand below the level ends the run up. -/
theorem Grade.persist_ends_up (h : dem < g.level) : (g.persist m dem).up = 0 ∧ (g.persist m dem).upMin = 0 := by
  rcases eq_or_ne (g.down + 1) m.pDown with hrun | hrun
  · rw [persist_of_lowered h hrun]
    exact ⟨rfl, rfl⟩
  · rw [persist_of_running_down h hrun]
    exact ⟨rfl, rfl⟩

/-- R79: a demand at the level ends both runs. -/
theorem Grade.persist_of_eq (h : dem = g.level) : g.persist m dem =
    { g with up := 0, upMin := 0, down := 0, downMax := 0 } := by
  rw [Grade.persist, if_neg h.not_gt, if_neg h.not_lt]

/-- What persistence can do: it moves the level and the runs, and keeps the demands. -/
theorem Grade.persist_frame (g : Grade) (m : MonitorsItem) (dem : Level) : g.persist m dem =
    { g with level := (g.persist m dem).level, up := (g.persist m dem).up, upMin := (g.persist m dem).upMin
             down := (g.persist m dem).down, downMax := (g.persist m dem).downMax } := by
  rcases lt_trichotomy g.level dem with hlt | heq | hgt
  · rcases eq_or_ne (g.up + 1) m.pUp with hrun | hrun
    · rw [persist_of_raised hlt hrun]
    · rw [persist_of_running_up hlt hrun]
  · rw [persist_of_eq heq.symm]
  · rcases eq_or_ne (g.down + 1) m.pDown with hrun | hrun
    · rw [persist_of_lowered hgt hrun]
    · rw [persist_of_running_down hgt hrun]

@[simp] theorem Grade.persist_prevC : (g.persist m dem).prevC = g.prevC := by rw [persist_frame]
@[simp] theorem Grade.persist_prevR : (g.persist m dem).prevR = g.prevR := by rw [persist_frame]
@[simp] theorem Grade.persist_prevE : (g.persist m dem).prevE = g.prevE := by rw [persist_frame]

end

/-- R76, R77 to R79: an evaluation is persistence over the new demands, at the slot demand that it leaves. -/
theorem Grade.evaluate_eq (m : MonitorsItem) (a r e : Nat) (g : Grade) :
    g.evaluate m a r e = (g.takeDemands m a r e).persist m (g.evaluate m a r e).demanded := by
  have hdem : (g.evaluate m a r e).demanded = (g.takeDemands m a r e).slotDemand := by
    simp [Grade.demanded, Grade.evaluate, Grade.slotDemand]
  rw [hdem]
  rfl

/-! ## The grading of a slot (R71, R81) -/

section
variable (u : Fin 8) (h : Handed) (s : State)

/-- The evaluator record that slot `u` has after its grading on the values `h`. -/
def State.gradeAfter : Grade :=
  (s.slots.get u).grade.evaluate (s.applied.monitors.get u) h.ieff.natAbs h.rise h.exposure

theorem State.gradeAfter_eq : s.gradeAfter u h = ((s.slots.get u).grade.takeDemands (s.applied.monitors.get u)
    h.ieff.natAbs h.rise h.exposure).persist (s.applied.monitors.get u) (s.gradeAfter u h).demanded :=
  Grade.evaluate_eq ..

/-- What a grading can do (R81): the record is replaced, and a level that moved is told and handed on. -/
theorem State.gradeOn_cases :
    ((s.gradeAfter u h).level = (s.slots.get u).grade.level ∧
      s.gradeOn u h = s.setSlots (s.slots.set u { s.slots.get u with grade := s.gradeAfter u h })) ∨
    ((s.gradeAfter u h).level ≠ (s.slots.get u).grade.level ∧
      s.gradeOn u h = (s.setSlots (s.slots.set u { s.slots.get u with grade := s.gradeAfter u h })).levelChange u
        (s.slots.get u).grade.level (s.gradeAfter u h)) := by
  rcases eq_or_ne (s.gradeAfter u h).level (s.slots.get u).grade.level with heq | hne
  · exact .inl ⟨heq, if_pos heq⟩
  · exact .inr ⟨hne, if_neg hne⟩

/-- A grading changes the slots, the notices, and what is under way between the blocks. -/
theorem State.gradeOn_frame : s.gradeOn u h =
    { s with slots := (s.gradeOn u h).slots, notices := (s.gradeOn u h).notices, flight := (s.gradeOn u h).flight } := by
  rcases s.gradeOn_cases u h with ⟨-, e⟩ | ⟨-, e⟩ <;> rw [e] <;> rfl

@[simp] theorem State.gradeOn_slots :
    (s.gradeOn u h).slots = s.slots.set u { s.slots.get u with grade := s.gradeAfter u h } := by
  rcases s.gradeOn_cases u h with ⟨-, e⟩ | ⟨-, e⟩ <;> rw [e] <;> rfl

@[simp] theorem State.gradeOn_steps : (s.gradeOn u h).flight.steps = s.flight.steps := by
  rcases s.gradeOn_cases u h with ⟨-, e⟩ | ⟨-, e⟩ <;> rw [e] <;> rfl

@[simp] theorem State.gradeOn_handed : (s.gradeOn u h).flight.handed = s.flight.handed := by
  rcases s.gradeOn_cases u h with ⟨-, e⟩ | ⟨-, e⟩ <;> rw [e] <;> rfl

/-- The notices already queued stay at the front (R165). -/
theorem State.front_gradeOn : s.notices.queue <+: (s.gradeOn u h).notices.queue := by
  rcases s.gradeOn_cases u h with ⟨-, e⟩ | ⟨-, e⟩ <;> rw [e]
  · exact List.prefix_rfl
  · exact s.notices.front_arrive _

end

/-- The state in which the Alarm Evaluator has taken the values of slot `u`, and has not graded it yet (R71). -/
def State.takeHanded (u : Fin 8) (s : State) : State :=
  s.setFlight { s.flight with parts := s.flight.parts.filter (· ≠ .grade u)
                              handed := s.flight.handed.filter fun x => x.slot ≠ u }

/-- R71: taken alone, the grading of a defined slot takes the values handed over and grades the slot on them. -/
theorem exec_grade_of_awaits {s : State} {u : Fin 8} {h : Handed} (hawaits : s.awaits (.grade u))
    (hdefined : s.isDefined u = true) (hhanded : s.flight.handedTo u = some h) (hrdy : Bool) :
    exec (.epochCompletion [.grade u] false hrdy) s = .next ((s.takeHanded u).gradeOn u h) := by
  refine (exec_epochCompletion_of_awaits hawaits rfl hrdy).trans (congrArg Host.Outcome.next ?_)
  generalize hwaiting : s.setFlight { s.flight with parts := s.flight.parts.filter (· ≠ .grade u) } = w
  have hvalues : w.flight.handedTo u = some h := by rw [← hwaiting]; exact hhanded
  have hslot : w.isDefined u = true := by rw [← hwaiting]; exact hdefined
  show w.gradeSlot u = _
  rw [State.gradeSlot, hvalues]
  refine (if_pos hslot).trans ?_
  rw [← hwaiting]
  rfl

/-! ## The obligation on the grading -/

/-- Settles O20: the demand of a monitor is the highest level that qualifies; the grading taken alone evaluates the
slot's record on the values handed over, and each clause is then the case of persistence that its premises name. -/
theorem gradingOfASlot : Obligations.GradingOfASlot := by
  unfold Obligations.GradingOfASlot
  refine ⟨fun th h value prev => ⟨fun hpos => ?_, fun n hlt hmeets => ?_⟩, ?_⟩
  · exact qualifies_iff.mp (qualifies_demand hpos)
  · exact (le_demand_of_qualifies (qualifies_iff.mpr hmeets)).not_gt hlt
  · intro s u h hrdy hawaits hdefined hhanded
    refine ⟨_, exec_grade_of_awaits hawaits hdefined hhanded hrdy, State.gradeOn_frame u h (s.takeHanded u), ?_⟩
    have hgrade : (((s.takeHanded u).gradeOn u h).slots.get u).grade = s.gradeAfter u h := by
      rw [State.gradeOn_slots, Table.get_set_self]
      rfl
    simp only [hgrade]
    have hpersist := s.gradeAfter_eq u h
    refine ⟨State.gradeOn_slots u h (s.takeHanded u), State.gradeOn_steps u h (s.takeHanded u),
      State.gradeOn_handed u h (s.takeHanded u), State.front_gradeOn u h (s.takeHanded u), ?_⟩
    generalize (s.gradeAfter u h).demanded = dem at hpersist ⊢
    refine ⟨(congrArg Grade.prevC hpersist).trans Grade.persist_prevC,
      (congrArg Grade.prevR hpersist).trans Grade.persist_prevR,
      (congrArg Grade.prevE hpersist).trans Grade.persist_prevE, fun hlt hrun => ?_, fun hlt hrun => ?_, fun hlt => ?_,
      fun hgt hrun => ?_, fun hgt hrun => ?_, fun hgt => ?_, fun heq => ?_⟩
    · rw [hpersist.trans (Grade.persist_of_raised hlt hrun)]
      exact ⟨rfl, rfl, rfl⟩
    · rw [hpersist.trans (Grade.persist_of_running_up hlt hrun)]
      exact ⟨rfl, rfl, rfl⟩
    · rw [hpersist]
      exact Grade.persist_ends_down hlt
    · rw [hpersist.trans (Grade.persist_of_lowered hgt hrun)]
      exact ⟨rfl, rfl, rfl⟩
    · rw [hpersist.trans (Grade.persist_of_running_down hgt hrun)]
      exact ⟨rfl, rfl, rfl⟩
    · rw [hpersist]
      exact Grade.persist_ends_up hgt
    · rw [hpersist.trans (Grade.persist_of_eq heq)]
      exact ⟨rfl, rfl, rfl, rfl, rfl⟩

end Sys2Proof.Machine

/-! Capture Memory's requests (chapter 7 of the manual): CAPTURE TRIGGER, CAPTURE HOLD and CAPTURE RELEASE in each of
the four capture states. -/

namespace Sys2Proof.Machine

/-! ## What Capture Memory answers, by its state (R124, R125, R127) -/

/-- R120, R124: the state in which the REQUEST trigger has been taken, its notice not yet queued. -/
def State.takeRequestTrigger (s : State) : State :=
  s.setCapture (s.capture.trigger s.applied.general.preDepth s.requestTrigger)

section
variable {s : State}

theorem State.takeCaptureTrigger_of_armed (h : s.capture.state = .armed) :
    s.takeCaptureTrigger = (s.takeRequestTrigger, doneEmpty) := by
  rw [State.takeCaptureTrigger, h]
  rfl

theorem State.takeCaptureTrigger_of_held (h : s.capture.state = .held) :
    s.takeCaptureTrigger = (s.takeRequestTrigger.notify (.holdRevoked .request), doneEmpty) := by
  rw [State.takeCaptureTrigger, h]
  rfl

theorem State.takeCaptureTrigger_of_captured (h : s.capture.state = .triggered ∨ s.capture.state = .frozen) :
    s.takeCaptureTrigger = (s, refuseState) := by
  rcases h with h | h <;> rw [State.takeCaptureTrigger, h]

theorem State.takeCaptureHold_of_armed (h : s.capture.state = .armed) :
    s.takeCaptureHold = (s.setCapture { s.capture with holdPending := true }, .wait) := by
  rw [State.takeCaptureHold, h]

theorem State.takeCaptureHold_of_still (h : s.capture.state = .held ∨ s.capture.state = .frozen) :
    s.takeCaptureHold = (s, doneEmpty) := by
  rcases h with h | h <;> rw [State.takeCaptureHold, h]

theorem State.takeCaptureHold_of_triggered (h : s.capture.state = .triggered) :
    s.takeCaptureHold = (s, .now .busy []) := by
  rw [State.takeCaptureHold, h]

theorem State.takeCaptureRelease_of_held (h : s.capture.state = .held) :
    s.takeCaptureRelease = (s.setCapture { s.capture with state := .armed }, doneEmpty) := by
  rw [State.takeCaptureRelease, h]

theorem State.takeCaptureRelease_of_frozen (h : s.capture.state = .frozen) :
    s.takeCaptureRelease = (s.setCapture s.capture.release, doneEmpty) := by
  rw [State.takeCaptureRelease, h]

theorem State.takeCaptureRelease_of_recording (h : s.capture.state = .armed ∨ s.capture.state = .triggered) :
    s.takeCaptureRelease = (s, refuseState) := by
  rcases h with h | h <;> rw [State.takeCaptureRelease, h]

end

/-! ## A request whose owner leaves it waiting (R125) -/

/-- R125: a request whose owner leaves it waiting stays in service, unanswered, whatever HRDY shows. -/
theorem State.serve_of_wait {s s2 : State} {k : RequestKind} {owner : State → State × Answer} {tag : Byte}
    {payload : List Byte} (hs : s.canServe) (hlength : payload.length = k.length)
    (howner : owner (s.enterService k.code tag payload) = (s2.enterService k.code tag payload, .wait)) (hrdy : Bool) :
    s.serve k owner tag payload hrdy = s2.setLink { s2.link with
      service := some { kind := k.code, tag := tag, payload := payload, stage := .holding } } := by
  unfold State.serve
  rw [s.entry_taken _ _ _ hs]
  simp only [if_pos hlength, howner]
  rfl

/-! ## The obligation on the requests -/

/-- Settles O46: in each capture state a request is answered, or left waiting, with what Capture Memory answers in
that state. -/
theorem captureRequestsByState : Obligations.CaptureRequestsByState := by
  unfold Obligations.CaptureRequestsByState
  intro s tag hrdy hs
  have answered {k : RequestKind} {owner : State → State × Answer} {s2 : State} {status : ReplyStatus}
      (hlength : ([] : List Byte).length = k.length)
      (howner : owner (s.enterService k.code tag []) = (s2.enterService k.code tag [], .now status [])) :
      (Host.Outcome.next (s.serve k owner tag [] hrdy) : Host.Outcome State Fault Refusal) =
        .next (s2.answered k tag [] status [] hrdy) :=
    congrArg Host.Outcome.next (State.serve_of_owner hs hlength howner hrdy)
  refine ⟨fun harmed => ⟨?_, ?_, ?_⟩, fun hheld => ⟨?_, ?_, ?_⟩, fun htriggered => ⟨?_, ?_, ?_⟩,
    fun hfrozen => ⟨?_, ?_, ?_⟩⟩
  · exact answered rfl (State.takeCaptureTrigger_of_armed (s := s.enterService ..) harmed)
  · exact congrArg Host.Outcome.next
      (State.serve_of_wait (s2 := s.setCapture { s.capture with holdPending := true }) hs rfl
        (State.takeCaptureHold_of_armed (s := s.enterService ..) harmed) hrdy)
  · exact answered rfl (State.takeCaptureRelease_of_recording (.inl harmed))
  · exact answered rfl (State.takeCaptureTrigger_of_held (s := s.enterService ..) hheld)
  · exact answered rfl (State.takeCaptureHold_of_still (.inl hheld))
  · exact answered rfl (State.takeCaptureRelease_of_held (s := s.enterService ..) hheld)
  · exact answered rfl (State.takeCaptureTrigger_of_captured (.inl htriggered))
  · exact answered rfl (State.takeCaptureHold_of_triggered htriggered)
  · exact answered rfl (State.takeCaptureRelease_of_recording (.inr htriggered))
  · exact answered rfl (State.takeCaptureTrigger_of_captured (.inr hfrozen))
  · exact answered rfl (State.takeCaptureHold_of_still (.inr hfrozen))
  · exact answered rfl (State.takeCaptureRelease_of_frozen (s := s.enterService ..) hfrozen)

end Sys2Proof.Machine

/-! The Settings Store's requests COMMIT and DISCARD (chapter 8 of the manual): the first failure of COMMIT's checks in the
order of R144, what it means that none fails, and the two requests' answers. -/

namespace Sys2Proof.Machine

/-! ## The first failure of a family of checks -/

section
variable {α : Type} [Preorder α] {P Q : α → Prop} {o o' : Option α}

/-- `o` is the first place at which `P` fails, and none only if `P` fails nowhere. -/
def FirstFailing (P : α → Prop) : Option α → Prop
  | none => ∀ m, P m
  | some n => ¬ P n ∧ ∀ m < n, P m

theorem FirstFailing.congr (h : FirstFailing P o) (hPQ : ∀ m, P m ↔ Q m) : FirstFailing Q o := by
  rwa [← funext fun m => propext (hPQ m)]

/-- Where every failure of `P` comes before every failure of `Q`, the first of both is that of `P`, if there is one. -/
theorem FirstFailing.or (hP : FirstFailing P o) (hQ : FirstFailing Q o')
    (horder : ∀ m n, ¬ P m → ¬ Q n → m < n) : FirstFailing (fun m => P m ∧ Q m) (o.or o') := by
  cases o with
  | some n =>
    obtain ⟨hn, hbelow⟩ := hP
    refine ⟨fun h => hn h.1, fun m hm => ⟨hbelow m hm, ?_⟩⟩
    by_contra hq
    exact lt_asymm hm (horder n m hn hq)
  | none =>
    cases o' with
    | none => exact fun m => ⟨hP m, hQ m⟩
    | some n => exact ⟨fun h => hQ.1 h.2, fun m hm => ⟨hP m, hQ.2 m hm⟩⟩

/-- The same for a list of families, each of whose failures all come before those of the families after it. -/
theorem FirstFailing.findSome? {ι : Type} {P : ι → α → Prop} {first : ι → Option α}
    (hfirst : ∀ i, FirstFailing (P i) (first i)) : ∀ {l : List ι},
    l.Pairwise (fun i j => ∀ m n, ¬ P i m → ¬ P j n → m < n) →
      FirstFailing (fun m => ∀ i ∈ l, P i m) (l.findSome? first)
  | [], _ => fun _ _ h => nomatch h
  | i :: l, hl => by
    obtain ⟨hi, hl⟩ := List.pairwise_cons.mp hl
    have horder : ∀ m n, ¬ P i m → ¬ (∀ j ∈ l, P j n) → m < n := fun m n hm hn => by
      push Not at hn
      obtain ⟨j, hj, hn⟩ := hn
      exact hi j hj m n hm hn
    have hor : FirstFailing (fun m => ∀ j ∈ i :: l, P j m) ((first i).or (l.findSome? first)) :=
      ((hfirst i).or (FirstFailing.findSome? hfirst hl) horder).congr fun m => by rw [List.forall_mem_cons]
    rw [List.findSome?_cons]
    cases h : first i with
    | none => rwa [h] at hor
    | some n => rwa [h] at hor

/-- A check made first, at a place before which the others do not fail. -/
theorem FirstFailing.check {bad ok : Prop} [Decidable bad] {n : α} (hbad : bad ↔ ¬ ok) (hQ : ∀ m < n, Q m)
    (hrest : ¬ bad → FirstFailing Q o) :
    FirstFailing (fun m => (m = n → ok) ∧ Q m) (if bad then some n else o) := by
  split
  next h => exact ⟨fun hn => hbad.mp h (hn.1 rfl), fun m hm => ⟨fun heq => absurd heq hm.ne, hQ m hm⟩⟩
  next h =>
    have hok : ok := not_not.mp (mt hbad.mpr h)
    exact (hrest h).congr fun m => ⟨fun hm => ⟨fun _ => hok, hm⟩, And.right⟩

/-- Checks made only of what is in use. -/
theorem FirstFailing.of_used {used : Prop} [Decidable used] (h : FirstFailing P o) :
    FirstFailing (fun m => used → P m) (if used then o else none) := by
  split
  next hused => exact h.congr fun m => ⟨fun hm _ => hm, fun hm => hm hused⟩
  next hused => exact fun m hm => absurd hm hused

/-- A first failure is found exactly when there is a failure. -/
theorem FirstFailing.eq_none_iff (h : FirstFailing P o) : o = none ↔ ∀ m, P m := by
  cases o with
  | none => exact iff_of_true rfl h
  | some n => exact ⟨fun hn => (Option.some_ne_none n hn).elim, fun hall => absurd (hall n) h.1⟩

end

/-! ## The terms of a transformer (R41, R144) -/

section
variable {c : Settings} {earlier : List (Fin 16)} {n : Nat} {terms rest : List Term} {w : Term}

/-- R144: the channel of each term, field `n` for the first and two more for each next, is neither among the `earlier`
channels nor that of a term before it, and is enabled. -/
def termChannelsPass (c : Settings) (earlier : List (Fin 16)) (n : Nat) (terms : List Term) (field : Nat) : Prop :=
  ∀ before w after, terms = before ++ w :: after → field = 2 * before.length + n →
    w.chan ∉ earlier ∧ w.chan ∉ before.map (·.chan) ∧ (c.channels.get w.chan).enabled = true

theorem termChannelsPass_nil (field : Nat) : termChannelsPass c earlier n [] field :=
  fun before _ _ h => absurd h.symm (by simp)

theorem termChannelsPass_of_lt {field : Nat} (h : field < n) : termChannelsPass c earlier n terms field :=
  fun _ _ _ _ hfield => absurd hfield (by omega)

theorem termChannelsPass_cons (field : Nat) : termChannelsPass c earlier n (w :: rest) field ↔
    (field = n → w.chan ∉ earlier ∧ (c.channels.get w.chan).enabled = true) ∧
      termChannelsPass c (w.chan :: earlier) (n + 2) rest field := by
  constructor
  · intro h
    refine ⟨fun hfield => ?_, fun before v after hrest hfield => ?_⟩
    · obtain ⟨hearlier, -, henabled⟩ := h [] w rest rfl (by simpa using hfield)
      exact ⟨hearlier, henabled⟩
    · obtain ⟨hearlier, hbefore, henabled⟩ := h (w :: before) v after (by rw [hrest]; rfl)
        (by rw [List.length_cons]; omega)
      obtain ⟨hw, hbefore⟩ := List.ne_and_not_mem_of_not_mem_cons hbefore
      exact ⟨List.not_mem_cons_of_ne_of_not_mem hw hearlier, hbefore, henabled⟩
  · rintro ⟨hw, hrest⟩ before v after hsplit hfield
    cases before with
    | nil =>
      obtain ⟨rfl, rfl⟩ := List.cons.inj hsplit
      obtain ⟨hearlier, henabled⟩ := hw (by simpa using hfield)
      exact ⟨hearlier, List.not_mem_nil, henabled⟩
    | cons x before =>
      obtain ⟨rfl, hafter⟩ := List.cons.inj hsplit
      obtain ⟨hearlier, hbefore, henabled⟩ := hrest before v after hafter
        (by rw [List.length_cons] at hfield; omega)
      obtain ⟨hw, hearlier⟩ := List.ne_and_not_mem_of_not_mem_cons hearlier
      exact ⟨hearlier, List.not_mem_cons_of_ne_of_not_mem hw hbefore, henabled⟩

theorem termFailure_first (c : Settings) (earlier : List (Fin 16)) (k : Nat) (terms : List Term) :
    FirstFailing (termChannelsPass c earlier (2 * k + 1) terms) (termFailure c earlier k terms) := by
  induction terms generalizing earlier k with
  | nil => exact termChannelsPass_nil
  | cons w rest ih =>
    refine (FirstFailing.check ?_ (fun m hm => ?_) fun _ => ih (w.chan :: earlier) (k + 1)).congr
      fun m => (termChannelsPass_cons m).symm
    · rw [not_and_or, not_not, Bool.not_eq_true]
    · exact termChannelsPass_of_lt (by omega)

/-- R144: what COMMIT checks of a transformer's terms. -/
def termsPass (c : Settings) (terms : List Term) (field : Nat) : Prop :=
  (field = 2 → terms ≠ []) ∧ ∀ before w after, terms = before ++ w :: after → field = 2 * before.length + 3 →
    w.chan ∉ before.map (·.chan) ∧ (c.channels.get w.chan).enabled = true

theorem termsPass_first (c : Settings) (terms : List Term) :
    FirstFailing (termsPass c terms) (if terms.length = 0 then some 2 else termFailure c [] 1 terms) := by
  refine (FirstFailing.check (ok := terms ≠ []) ?_ (fun m hm => termChannelsPass_of_lt (by omega)) fun _ =>
    termFailure_first c [] 1 terms).congr fun m => ?_
  · rw [List.length_eq_zero_iff, not_not]
  · simp [termsPass, termChannelsPass]

/-- A list is free of repetitions when no entry's value is among those before it. -/
theorem nodup_map_of_not_mem_before {α β : Type} {f : α → β} (l : List α)
    (h : ∀ before x after, l = before ++ x :: after → f x ∉ before.map f) : (l.map f).Nodup := by
  induction l using List.reverseRecOn with
  | nil => exact List.nodup_nil
  | append_singleton l x ih =>
    have hl := ih fun before y after hsplit => h before y (after ++ [x]) (by simp [hsplit])
    rw [List.map_append, List.map_singleton, ← List.concat_eq_append, List.nodup_concat]
    exact ⟨h l x [] rfl, hl⟩

theorem termsPass_iff : (∀ field, termsPass c terms field) ↔ termsOk c terms := by
  constructor
  · intro h
    refine ⟨(h 2).1 rfl, nodup_map_of_not_mem_before terms fun before w after hsplit => ?_, fun w hw => ?_⟩
    · exact ((h _).2 before w after hsplit rfl).1
    · obtain ⟨before, after, hsplit⟩ := List.append_of_mem hw
      exact ((h _).2 before w after hsplit rfl).2
  · rintro ⟨hne, hnodup, henabled⟩ field
    refine ⟨fun _ => hne, fun before w after hsplit _ => ⟨?_, ?_⟩⟩
    · rw [hsplit, List.map_append, List.map_cons, List.nodup_middle] at hnodup
      exact fun hw => (List.nodup_cons.mp hnodup).1 (List.mem_append_left _ hw)
    · exact henabled w (by simp [hsplit])

end

/-! ## The breakpoints of a curve (R58, R144) -/

section
variable {n : Nat} {b p : Breakpoint} {rest curve : List Breakpoint}

/-- R144: of each two neighbours the later one's current, field `n` for the first pair and two more for each next, is
above, and its rise, the field after it, is not below. -/
def pointsPass (n : Nat) (curve : List Breakpoint) (field : Nat) : Prop :=
  ∀ before p q after, curve = before ++ p :: q :: after →
    (field = 2 * before.length + n → p.current < q.current) ∧ (field = 2 * before.length + (n + 1) → p.rise ≤ q.rise)

theorem pointsPass_of_lt {field : Nat} (h : field < n) : pointsPass n curve field :=
  fun _ _ _ _ _ => ⟨fun hfield => absurd hfield (by omega), fun hfield => absurd hfield (by omega)⟩

theorem pointsPass_singleton (field : Nat) : pointsPass n [b] field := by
  intro before p q after h
  have hlength := congrArg List.length h
  simp only [List.length_append, List.length_cons, List.length_nil] at hlength
  omega

theorem pointsPass_cons (field : Nat) : pointsPass n (p :: b :: rest) field ↔
    (field = n → p.current < b.current) ∧ (field = n + 1 → p.rise ≤ b.rise) ∧ pointsPass (n + 2) (b :: rest) field := by
  constructor
  · intro h
    obtain ⟨hcurrent, hrise⟩ := h [] p b rest rfl
    refine ⟨fun hfield => hcurrent (by simpa using hfield), fun hfield => hrise (by simpa using hfield),
      fun before x y after hsplit => ?_⟩
    obtain ⟨hcurrent, hrise⟩ := h (p :: before) x y after (by rw [hsplit]; rfl)
    rw [List.length_cons] at hcurrent hrise
    exact ⟨fun hfield => hcurrent (by omega), fun hfield => hrise (by omega)⟩
  · rintro ⟨hcurrent, hrise, hrest⟩ before x y after hsplit
    cases before with
    | nil =>
      obtain ⟨rfl, hafter⟩ := List.cons.inj hsplit
      obtain ⟨rfl, -⟩ := List.cons.inj hafter
      exact ⟨fun hfield => hcurrent (by simpa using hfield), fun hfield => hrise (by simpa using hfield)⟩
    | cons z before =>
      obtain ⟨-, hsplit⟩ := List.cons.inj hsplit
      obtain ⟨hcurrent, hrise⟩ := hrest before x y after hsplit
      rw [List.length_cons]
      exact ⟨fun hfield => hcurrent (by omega), fun hfield => hrise (by omega)⟩

theorem pointFailure_first (prev : Breakpoint) (k : Nat) (rest : List Breakpoint) :
    FirstFailing (pointsPass (2 * k) (prev :: rest)) (pointFailure prev k rest) := by
  induction rest generalizing prev k with
  | nil => exact pointsPass_singleton
  | cons b rest ih =>
    have hrise := FirstFailing.check (n := 2 * k + 1) (bad := b.rise < prev.rise) Nat.not_le.symm
      (fun m hm => pointsPass_of_lt (by omega)) fun _ => ih b (k + 1)
    refine (FirstFailing.check (n := 2 * k) Nat.not_lt.symm (fun m hm => ⟨?_, ?_⟩) fun _ => hrise).congr
      fun m => (pointsPass_cons m).symm
    · exact fun hfield => absurd hfield (by omega)
    · exact pointsPass_of_lt (by omega)

/-- R144: what COMMIT checks of a curve. -/
def curvePass (curve : List Breakpoint) (field : Nat) : Prop :=
  (field = 1 → curve ≠ []) ∧ pointsPass 4 curve field

theorem curvePass_first (curve : List Breakpoint) : FirstFailing (curvePass curve) (curveFieldFailure curve) := by
  cases curve with
  | nil => exact ⟨fun h => h.1 rfl rfl, fun m hm => ⟨fun heq => absurd heq hm.ne, pointsPass_of_lt (by omega)⟩⟩
  | cons b rest => exact (pointFailure_first b 2 rest).congr fun m => ⟨fun h => ⟨fun _ => by simp, h⟩, And.right⟩

/-- R58: neighbours in order put all pairs in order. -/
theorem curvePass_iff : (∀ field, curvePass curve field) ↔ curveOk curve := by
  have htrans : IsTrans Breakpoint fun a b => a.current < b.current ∧ a.rise ≤ b.rise :=
    ⟨fun _ _ _ hab hbc => ⟨hab.1.trans hbc.1, hab.2.trans hbc.2⟩⟩
  rw [curveOk, ← List.isChain_iff_pairwise, List.isChain_iff_forall_rel_of_append_cons_cons]
  constructor
  · intro h
    refine ⟨(h 1).1 rfl, fun p q before after hsplit => ?_⟩
    exact ⟨((h _).2 before p q after hsplit).1 rfl, ((h _).2 before p q after hsplit).2 rfl⟩
  · rintro ⟨hne, hchain⟩ field
    refine ⟨fun _ => hne, fun before p q after hsplit => ?_⟩
    obtain ⟨hcurrent, hrise⟩ := hchain hsplit
    exact ⟨fun _ => hcurrent, fun _ => hrise⟩

end

/-! ## The thresholds of a slot's monitors (R72, R144) -/

/-- R144: what COMMIT checks of one monitor whose level 1 threshold is field `f`. -/
def thresholdsPass (f : Nat) (x : Thresholds) (field : Nat) : Prop :=
  (field = f + 1 → x.l2 ≠ 0 → x.l1 ≠ 0 → x.l1 < x.l2) ∧
    (field = f + 2 → x.l3 ≠ 0 → (x.l1 ≠ 0 → x.l1 < x.l3) ∧ (x.l2 ≠ 0 → x.l2 < x.l3))

theorem above_iff {x lower : Nat} : above x lower = true ↔ (lower ≠ 0 → lower < x) := by
  simp [above, imp_iff_not_or]

theorem thresholdFailure_first (f : Nat) (x : Thresholds) :
    FirstFailing (thresholdsPass f x) (thresholdFailure f x) := by
  have hl3 := FirstFailing.check (n := f + 2) (Q := fun _ => True) (o := none)
    (bad := x.l3 != 0 && !(above x.l3 x.l1 && above x.l3 x.l2))
    (ok := x.l3 ≠ 0 → (x.l1 ≠ 0 → x.l1 < x.l3) ∧ (x.l2 ≠ 0 → x.l2 < x.l3))
    (by simp only [← above_iff]; simp [imp_iff_not_or]) (fun _ _ => trivial) fun _ _ => trivial
  refine (FirstFailing.check (n := f + 1) (bad := x.l2 != 0 && !above x.l2 x.l1)
    (ok := x.l2 ≠ 0 → x.l1 ≠ 0 → x.l1 < x.l2) (by simp [← above_iff])
    (fun m hm => ⟨fun hfield => absurd hfield (by omega), trivial⟩) fun _ => hl3).congr fun m => ?_
  rw [and_true]
  rfl

theorem thresholdsPass_of_outside {f field : Nat} {x : Thresholds} (h : field ≤ f ∨ f + 2 < field) :
    thresholdsPass f x field :=
  ⟨fun hfield => absurd hfield (by omega), fun hfield => absurd hfield (by omega)⟩

theorem thresholdsPass_iff {f : Nat} {x : Thresholds} : (∀ field, thresholdsPass f x field) ↔ x.ascendingUsed := by
  constructor
  · intro h
    have hl2 := (h (f + 1)).1 rfl
    have hl3 := (h (f + 2)).2 rfl
    exact ⟨fun h1 h2 => hl2 h2 h1, fun h1 h3 => (hl3 h3).1 h1, fun h2 h3 => (hl3 h3).2 h2⟩
  · rintro ⟨h12, h13, h23⟩ field
    exact ⟨fun _ h2 h1 => h12 h1 h2, fun _ h3 => ⟨fun h1 => h13 h1 h3, fun h2 => h23 h2 h3⟩⟩

/-- R144: what COMMIT checks of a slot's three monitors. -/
def monitorsPass (m : MonitorsItem) (field : Nat) : Prop :=
  thresholdsPass 1 m.c field ∧ thresholdsPass 4 m.r field ∧ thresholdsPass 7 m.e field

theorem monitorsPass_first (m : MonitorsItem) : FirstFailing (monitorsPass m)
    ((thresholdFailure 1 m.c).or ((thresholdFailure 4 m.r).or (thresholdFailure 7 m.e))) := by
  have outside {f field : Nat} {x : Thresholds} (h : ¬ thresholdsPass f x field) : f < field ∧ field ≤ f + 2 := by
    constructor <;> by_contra hf <;> exact h (thresholdsPass_of_outside (by omega))
  refine (thresholdFailure_first 1 m.c).or ((thresholdFailure_first 4 m.r).or (thresholdFailure_first 7 m.e) ?_) ?_
  · intro i j hi hj
    have := outside hi
    have := outside hj
    omega
  · intro i j hi hj
    have := outside hi
    rcases not_and_or.mp hj with hj | hj <;> have := outside hj <;> omega

/-! ## The source of a contact (R110, R144) -/

/-- R144: what COMMIT checks of a contact. -/
def sourcePass (c : Settings) (source : ContactSource) (field : Nat) : Prop :=
  field = 3 → ∀ t n, source = .level t n → (c.transformers.get t).defined = true

theorem sourcePass_iff {c : Settings} {source : ContactSource} :
    (∀ field, sourcePass c source field) ↔ sourceOk c source := by
  cases source with
  | level t n =>
    constructor
    · exact fun h => h 3 rfl t n rfl
    · rintro h field - t' n' heq
      cases heq
      exact h
  | none | anyLevel _ | unacknowledged | horn | healthy | captureReady =>
    exact ⟨fun _ => trivial, fun _ _ _ _ _ heq => nomatch heq⟩

/-! ## The order of R144: kind, index, field -/

/-- Where a check stands in the order of R144. -/
abbrev CheckPlace : Type := Lex (Nat × Lex (Nat × Nat))

/-- The place of a check from its kind code, index and field. -/
def checkPlace (kind index field : Nat) : CheckPlace := toLex (kind, toLex (index, field))

theorem checkPlace_lt {kind index field kind' index' field' : Nat} :
    checkPlace kind' index' field' < checkPlace kind index field ↔
      kind' < kind ∨ (kind' = kind ∧ index' < index) ∨ (kind' = kind ∧ index' = index ∧ field' < field) := by
  simp only [checkPlace, Prod.Lex.toLex_lt_toLex, and_or_left]

theorem checkPlace_inj {kind index field kind' index' field' : Nat} :
    checkPlace kind' index' field' = checkPlace kind index field ↔ kind' = kind ∧ index' = index ∧ field' = field := by
  simp only [checkPlace, EmbeddingLike.apply_eq_iff_eq, Prod.mk.injEq]

/-- The place of a failure that COMMIT finds. -/
def CommitFailure.place (f : CommitFailure) : CheckPlace := checkPlace f.kind.code.toNat f.index f.field

section
variable {kind index : Nat} {P : Nat → Prop}

/-- The checks `P` of one item's fields, as checks by place. -/
def itemPasses (kind index : Nat) (P : Nat → Prop) (m : CheckPlace) : Prop :=
  ∀ field, m = checkPlace kind index field → P field

theorem itemPasses_checkPlace {kind' index' field : Nat} : itemPasses kind index P (checkPlace kind' index' field) ↔
    (kind' = kind → index' = index → P field) := by
  constructor
  · rintro h rfl rfl
    exact h field rfl
  · intro h field' heq
    obtain ⟨hkind, hindex, rfl⟩ := checkPlace_inj.mp heq
    exact h hkind hindex

theorem exists_field_of_not_itemPasses {m : CheckPlace} (h : ¬ itemPasses kind index P m) :
    ∃ field, m = checkPlace kind index field := by
  by_contra hnone
  exact h fun field heq => absurd ⟨field, heq⟩ hnone

theorem FirstFailing.item {o : Option Nat} (h : FirstFailing P o) (kind index : Nat) :
    FirstFailing (itemPasses kind index P) (o.map (checkPlace kind index)) := by
  cases o with
  | none => exact fun m field _ => h field
  | some n =>
    refine ⟨fun hn => h.1 (hn n rfl), fun m hm field heq => h.2 field ?_⟩
    rw [heq, checkPlace_lt] at hm
    omega

/-- The items of one kind are checked in the order of their indices. -/
theorem FirstFailing.items {count : Nat} {P : Fin count → Nat → Prop} {first : Fin count → Option CheckPlace}
    (hfirst : ∀ i, FirstFailing (itemPasses kind i.val (P i)) (first i)) :
    FirstFailing (fun m => ∀ i, itemPasses kind i.val (P i) m) ((List.finRange count).findSome? first) := by
  refine (FirstFailing.findSome? hfirst ((List.pairwise_lt_finRange count).imp fun hij m n hm hn => ?_)).congr
    fun m => ⟨fun h i => h i (List.mem_finRange i), fun h i _ => h i⟩
  obtain ⟨field, rfl⟩ := exists_field_of_not_itemPasses hm
  obtain ⟨field', rfl⟩ := exists_field_of_not_itemPasses hn
  exact checkPlace_lt.mpr (.inr (.inl ⟨rfl, hij⟩))

end

/-! ## COMMIT's checks as a whole (R144) -/

section
variable (c : Settings)

/-- R144: the checks of TRANSFORMER `t`, CURVE `t` and MONITORS `t` stand only while slot `t` is defined. -/
def transformerItemPass (t : Fin 8) (field : Nat) : Prop :=
  (c.transformers.get t).defined = true → termsPass c (c.transformers.get t).terms field

@[inherit_doc transformerItemPass]
def curveItemPass (t : Fin 8) (field : Nat) : Prop :=
  (c.transformers.get t).defined = true → curvePass (c.curves.get t) field

@[inherit_doc transformerItemPass]
def monitorsItemPass (t : Fin 8) (field : Nat) : Prop :=
  (c.transformers.get t).defined = true → monitorsPass (c.monitors.get t) field

/-- R144: those of CONTACT `k` stand whether the contact is enabled or not. -/
def contactItemPass (k : Fin 6) (field : Nat) : Prop := sourcePass c (c.contacts.get k).source field

/-- R144: all that COMMIT checks, by place. -/
def commitPasses (m : CheckPlace) : Prop :=
  (∀ t : Fin 8, itemPasses 0x12 t.val (transformerItemPass c t) m) ∧
    (∀ t : Fin 8, itemPasses 0x13 t.val (curveItemPass c t) m) ∧
      (∀ t : Fin 8, itemPasses 0x14 t.val (monitorsItemPass c t) m) ∧
        ∀ k : Fin 6, itemPasses 0x15 k.val (contactItemPass c k) m

/-- The first failure of one item, found only while the item is in use. -/
theorem FirstFailing.itemFailure {P : Nat → Prop} {o : Option Nat} {used : Prop} [Decidable used]
    (h : FirstFailing P o) (kind : RequestKind) (index : Nat) :
    FirstFailing (itemPasses kind.code.toNat index fun field => used → P field)
      ((if used then o.map fun field => ⟨kind, index, field⟩ else none).map CommitFailure.place) := by
  have hplace : (if used then o.map fun field => ⟨kind, index, field⟩ else none).map CommitFailure.place =
      (if used then o else none).map (checkPlace kind.code.toNat index) := by
    split
    · rw [Option.map_map]
      rfl
    · rfl
  rw [hplace]
  exact h.of_used.item _ _

theorem transformerFailure_first (t : Fin 8) : FirstFailing (itemPasses 0x12 t.val (transformerItemPass c t))
    ((transformerFailure c t).map CommitFailure.place) :=
  (termsPass_first c (c.transformers.get t).terms).itemFailure .setTransformer t.val

theorem curveFailure_first (t : Fin 8) : FirstFailing (itemPasses 0x13 t.val (curveItemPass c t))
    ((curveFailure c t).map CommitFailure.place) :=
  (curvePass_first (c.curves.get t)).itemFailure .setCurve t.val

theorem monitorsFailure_first (t : Fin 8) : FirstFailing (itemPasses 0x14 t.val (monitorsItemPass c t))
    ((monitorsFailure c t).map CommitFailure.place) :=
  (monitorsPass_first (c.monitors.get t)).itemFailure .setMonitors t.val

/-- The one field of a contact that COMMIT checks is field 3, its slot. -/
theorem contactFailure_first (k : Fin 6) : FirstFailing (itemPasses 0x15 k.val (contactItemPass c k))
    ((contactFailure c k).map CommitFailure.place) := by
  unfold contactFailure contactItemPass
  split
  next t n hsource =>
    rw [hsource]
    split
    next hdef => exact fun m field _ => sourcePass_iff.mpr (show sourceOk c (.level t n) from hdef) field
    next hdef =>
      refine ⟨fun h => hdef (h 3 rfl rfl t n rfl), fun m hm field heq hfield => absurd heq ?_⟩
      rw [hfield]
      exact hm.ne
  all_goals
    next hsource => exact fun m field _ => sourcePass_iff.mpr (by rw [hsource]; trivial) field

/-- Items of one kind fail at places of that kind. -/
theorem kind_of_not_items {count kind : Nat} {P : Fin count → Nat → Prop} {m : CheckPlace}
    (h : ¬ ∀ i, itemPasses kind i.val (P i) m) : (ofLex m).1 = kind := by
  obtain ⟨i, hi⟩ := not_forall.mp h
  obtain ⟨field, rfl⟩ := exists_field_of_not_itemPasses hi
  rfl

/-- What COMMIT finds is the first failure of its checks: kind by kind, as the kind codes ascend. -/
theorem commitFailure_first : FirstFailing (commitPasses c) ((commitFailure c).map CommitFailure.place) := by
  rw [commitFailure, Option.map_or, Option.map_or, Option.map_or]
  simp only [List.map_findSome?]
  have lt_of_kind {m n : CheckPlace} (h : (ofLex m).1 < (ofLex n).1) : m < n := Prod.Lex.lt_iff.mpr (.inl h)
  refine (FirstFailing.items (transformerFailure_first c)).or ((FirstFailing.items (curveFailure_first c)).or
    ((FirstFailing.items (monitorsFailure_first c)).or (FirstFailing.items (contactFailure_first c)) ?_) ?_) ?_
  all_goals
    intro m n hm hn
    refine lt_of_kind ((kind_of_not_items hm).trans_lt ?_)
  · rw [kind_of_not_items hn]
    decide
  · rcases not_and_or.mp hn with hn | hn <;> rw [kind_of_not_items hn] <;> decide
  · rcases not_and_or.mp hn with hn | hn
    · rw [kind_of_not_items hn]
      decide
    · rcases not_and_or.mp hn with hn | hn <;> rw [kind_of_not_items hn] <;> decide

/-- The model's checks are those of the obligation, place by place. -/
theorem passes_iff (kind index field : Nat) :
    c.passes kind index field ↔ commitPasses c (checkPlace kind index field) := by
  simp only [commitPasses, itemPasses_checkPlace]
  constructor
  · rintro ⟨hslot, hcontact⟩
    exact ⟨fun t hkind hindex hdef => (hslot t hindex.symm hdef).1 hkind,
      fun t hkind hindex hdef => (hslot t hindex.symm hdef).2.1 hkind,
      fun t hkind hindex hdef => (hslot t hindex.symm hdef).2.2 hkind,
      fun k hkind hindex hfield => hcontact k hindex.symm hkind hfield⟩
  · rintro ⟨ht, hc, hm, hk⟩
    exact ⟨fun t hindex hdef => ⟨fun hkind => ht t hkind hindex.symm hdef, fun hkind => hc t hkind hindex.symm hdef,
      fun hkind => hm t hkind hindex.symm hdef⟩, fun k hindex hkind hfield => hk k hkind hindex.symm hfield⟩

/-- No check fails exactly when the copy meets what R41, R58, R72 and R110 ask of it. -/
theorem commitPasses_iff : (∀ m, commitPasses c m) ↔ c.crossChecked := by
  have items_iff {count kind : Nat} (P : Fin count → Nat → Prop) :
      (∀ m i, itemPasses kind i.val (P i) m) ↔ ∀ i field, P i field :=
    ⟨fun h i field => h _ i field rfl, fun h m i field _ => h i field⟩
  simp only [commitPasses, forall_and, items_iff, transformerItemPass, curveItemPass, monitorsItemPass, contactItemPass,
    sourcePass_iff]
  constructor
  · rintro ⟨ht, hc, hm, hk⟩
    refine ⟨fun t hdef => ⟨termsPass_iff.mp (ht t · hdef), curvePass_iff.mp (hc t · hdef), ?_, ?_, ?_⟩, hk⟩
    · exact thresholdsPass_iff.mp fun field => (hm t field hdef).1
    · exact thresholdsPass_iff.mp fun field => (hm t field hdef).2.1
    · exact thresholdsPass_iff.mp fun field => (hm t field hdef).2.2
  · rintro ⟨hslot, hk⟩
    refine ⟨fun t field hdef => ?_, fun t field hdef => ?_, fun t field hdef => ?_, hk⟩
    all_goals obtain ⟨hterms, hcurve, hc, hr, he⟩ := hslot t hdef
    · exact termsPass_iff.mpr hterms field
    · exact curvePass_iff.mpr hcurve field
    · exact ⟨thresholdsPass_iff.mpr hc field, thresholdsPass_iff.mpr hr field, thresholdsPass_iff.mpr he field⟩

/-- R143: COMMIT finds no failure exactly when every cross-item check holds. -/
theorem commitFailure_eq_none_iff : commitFailure c = none ↔ c.crossChecked := by
  rw [← commitPasses_iff, ← (commitFailure_first c).eq_none_iff, Option.map_eq_none_iff]

variable {c}

/-- R144: the failure that COMMIT finds is one, and comes first by kind, index and field. -/
theorem commitFailure_eq_some {f : CommitFailure} (h : commitFailure c = some f) :
    ¬ c.passes f.kind.code.toNat f.index f.field ∧
      ∀ kind index field, kind < f.kind.code.toNat ∨ (kind = f.kind.code.toNat ∧ index < f.index) ∨
          (kind = f.kind.code.toNat ∧ index = f.index ∧ field < f.field) → c.passes kind index field := by
  have hfirst := commitFailure_first c
  rw [h] at hfirst
  obtain ⟨hfails, hbefore⟩ := hfirst
  exact ⟨fun hpass => hfails ((passes_iff c ..).mp hpass),
    fun kind index field hlt => (passes_iff c ..).mpr (hbefore _ (checkPlace_lt.mpr hlt))⟩

end

/-! ## What the Store answers (R143, R148) -/

section
variable {s : State}

theorem State.takeCommit_of_sealed (h : s.store.isSealed = true) : s.takeCommit = (s, refuseState) := if_pos h

theorem State.takeCommit_of_checked (h : s.store.isSealed = false) (hchecked : commitFailure s.store.pending = none) :
    s.takeCommit = (s.setStore { s.store with isSealed := true }, doneEmpty) := by
  simp [State.takeCommit, h, hchecked]

theorem State.takeCommit_of_failure {f : CommitFailure} (h : s.store.isSealed = false)
    (hfailure : commitFailure s.store.pending = some f) :
    s.takeCommit = (s, .now .refusedValue (detail f.kind.code f.index f.field)) := by
  simp [State.takeCommit, h, hfailure]

end

/-! ## The obligation -/

/-- Settles O42: COMMIT answers by the first failure of its checks, of which there is none exactly when the pending copy
passes every cross-item check; DISCARD reverts the copy whatever it holds. -/
theorem commitSealsAndDiscardReverts : Obligations.CommitSealsAndDiscardReverts := by
  unfold Obligations.CommitSealsAndDiscardReverts
  intro s tag hrdy hs
  refine ⟨fun hsealed => ?_, fun hopen hchecked => ?_, fun hopen hunchecked => ?_, ?_⟩
  · exact congrArg Host.Outcome.next
      (State.serve_of_owner hs rfl (State.takeCommit_of_sealed (s := s.enterService ..) hsealed) hrdy)
  · have hnone := (commitFailure_eq_none_iff s.store.pending).mpr hchecked
    exact congrArg Host.Outcome.next
      (State.serve_of_owner hs rfl (State.takeCommit_of_checked (s := s.enterService ..) hopen hnone) hrdy)
  · obtain ⟨f, hf⟩ := Option.ne_none_iff_exists'.mp (mt (commitFailure_eq_none_iff s.store.pending).mp hunchecked)
    refine ⟨f.kind.code.toNat, f.index, f.field, ?_, commitFailure_eq_some hf⟩
    rw [BitVec.ofNat_toNat, BitVec.setWidth_eq]
    exact congrArg Host.Outcome.next
      (State.serve_of_owner hs rfl (State.takeCommit_of_failure (s := s.enterService ..) hopen hf) hrdy)
  · exact congrArg Host.Outcome.next (State.serve_of_owner hs rfl rfl hrdy)

end Sys2Proof.Machine

/-! The Link Interface's tables and the Notice Queue (chapters 10 and 11 of the manual): a body or a record that is
written field by field is laid out as its table says, the thirteen notice records, and FETCH NOTICE. -/

namespace Sys2Proof.Machine

/-! ## A body written field by field (R173) -/

/-- The row of a field that stands `m` bytes further on. -/
def rowFrom (m : Nat) (row : Nat × Nat × Nat) : Nat × Nat × Nat := (m + row.1, row.2)

theorem fieldAt_append_left (f b : List Byte) : fieldAt (f ++ b) 0 f.length = fieldAt f 0 f.length := by
  simp [fieldAt]

theorem fieldAt_append_right (f b : List Byte) (o n : Nat) : fieldAt (f ++ b) (f.length + o) n = fieldAt b o n := by
  simp [fieldAt]

section
variable {f b : List Byte} {x k : Nat} {rows : List (Nat × Nat × Nat)}

theorem laidOut_nil : laidOut [] 0 [] := ⟨rfl, fun _ _ _ h => absurd h List.not_mem_nil⟩

/-- A field before a body stands at offset 0 and moves every field of the body on by its size. -/
theorem laidOut_field (hf : x < 256 ^ f.length → fieldAt f 0 f.length = x) (hb : laidOut b k rows) :
    laidOut (f ++ b) (f.length + k) ((0, f.length, x) :: rows.map (rowFrom f.length)) := by
  obtain ⟨hlength, hrows⟩ := hb
  refine ⟨by rw [List.length_append, hlength], fun o n y hmem hy => ?_⟩
  rcases List.mem_cons.mp hmem with hhead | htail
  · cases hhead
    exact (fieldAt_append_left f b).trans (hf hy)
  · obtain ⟨⟨o, n, y⟩, hrow, hshift⟩ := List.mem_map.mp htail
    cases hshift
    exact (fieldAt_append_right f b o n).trans (hrows o n y hrow hy)

/-- A field of one byte, by the number that the byte holds. -/
theorem laidOut_code {c : Byte} (hc : c.toNat = x) (hb : laidOut b k rows) :
    laidOut (c :: b) (1 + k) ((0, 1, x) :: rows.map (rowFrom 1)) :=
  laidOut_field (f := [c]) (fun _ => by simp [fieldAt, hc]) hb

theorem byte_toNat_of_lt (hx : x < 256) : (byte x).toNat = x := Nat.mod_eq_of_lt hx

theorem laidOut_be16 (hb : laidOut b k rows) : laidOut (be16 x ++ b) (2 + k) ((0, 2, x) :: rows.map (rowFrom 2)) := by
  refine laidOut_field (f := be16 x) (fun hx => ?_) hb
  have hsum : fieldAt (be16 x) 0 2 = (0 * 256 + x / 256 % 256) * 256 + x % 256 := rfl
  have hlt : x < 256 ^ 2 := hx
  exact hsum.trans (by omega)

theorem laidOut_be32 (hb : laidOut b k rows) : laidOut (be32 x ++ b) (4 + k) ((0, 4, x) :: rows.map (rowFrom 4)) := by
  refine laidOut_field (f := be32 x) (fun hx => ?_) hb
  have hsum : fieldAt (be32 x) 0 4 =
      (((0 * 256 + x / 65536 / 256 % 256) * 256 + x / 65536 % 256) * 256 + x / 256 % 256) * 256 + x % 256 := rfl
  have hlt : x < 256 ^ 4 := hx
  exact hsum.trans (by omega)

/-- A table without its last rows says less. -/
theorem laidOut_of_append {more : List (Nat × Nat × Nat)} (hb : laidOut b k (rows ++ more)) : laidOut b k rows :=
  ⟨hb.1, fun o n y hmem => hb.2 o n y (List.mem_append_left more hmem)⟩

end

/-! ## A set written as a number (R173) -/

theorem bits_lt : ∀ l : List Bool, bits l < 2 ^ l.length
  | [] => Nat.one_pos
  | b :: l => by
    have ih := bits_lt l
    rw [bits, List.length_cons, Nat.pow_succ]
    split <;> omega

theorem testBit_bits : ∀ (l : List Bool) {m : Nat} (hm : m < l.length), (bits l).testBit m = l[m]
  | b :: l, 0, _ => by cases b <;> simp [bits, Nat.testBit_zero]
  | b :: l, m + 1, hm => by
    have hhalf : bits (b :: l) / 2 = bits l := by rw [bits]; split <;> omega
    rw [Nat.testBit_succ, hhalf]
    exact testBit_bits l (Nat.lt_of_succ_lt_succ hm)

theorem bits_cells_lt (t : Table 8 Bool) : bits t.cells < 256 := by
  have h := bits_lt t.cells
  rwa [t.size] at h

theorem testBit_bits_cells {n : Nat} (t : Table n Bool) (i : Fin n) : (bits t.cells).testBit i.val = t.get i :=
  testBit_bits t.cells (by rw [t.size]; exact i.isLt)

theorem bits_three (c r e : Bool) : bits [c, r, e] = yesBit c + 2 * yesBit r + 4 * yesBit e := by
  simp only [bits, yesBit]
  omega

/-! ## Bytes that name something (section 11.2) -/

theorem byte_toNat_slot (u : Fin 8) : (byte u.val).toNat = u.val := byte_toNat_of_lt (u.isLt.trans (by decide))

theorem byte_toNat_channel (i : Fin 16) : (byte i.val).toNat = i.val := byte_toNat_of_lt (i.isLt.trans (by decide))

theorem byte_toNat_level (l : Level) : (byte l.val).toNat = l.val := byte_toNat_of_lt (l.isLt.trans (by decide))

theorem AckSource.code_toNat (source : AckSource) :
    source.code.toNat = match source with | .request => 0 | .button => 1 := by
  cases source <;> rfl

theorem Cause.code_toNat (x : Cause) : x.code.toNat = match x with | .level _ => 1 | .step _ => 2 | .request => 3 := by
  cases x <;> rfl

theorem Cause.subject_toNat (x : Cause) :
    x.subject.toNat = match x with | .level u => u.val | .step i => i.val | .request => 0xFF := by
  cases x with
  | level u => exact byte_toNat_slot u
  | step i => exact byte_toNat_channel i
  | request => rfl

/-! ## The notice records (R164, R175) -/

section
variable (epoch : Count32) (body : NoticeBody) {code subject k : Nat} {rows : List (Nat × Nat × Nat)}

/-- A record holds its code at offset 0, the epoch at 1 and the subject at 5; its detail follows from offset 6. -/
theorem Notice.laidOut_bytes (hcode : body.code.toNat = code) (hsubject : body.subject.toNat = subject)
    (hdetail : laidOut body.detailBytes k rows) :
    laidOut (Notice.bytes { epoch := epoch, body := body }) (6 + k)
      ([(0, 1, code), (1, 4, epoch.toNat), (5, 1, subject)] ++ rows.map (rowFrom 6)) := by
  have hrecord := laidOut_code hcode (laidOut_be32 (x := epoch.toNat) (laidOut_code hsubject hdetail))
  have hshift : rowFrom 1 ∘ rowFrom 4 ∘ rowFrom 1 = rowFrom 6 :=
    funext fun row => Prod.ext (show 1 + (4 + (1 + row.1)) = 6 + row.1 by omega) rfl
  have hlength : 1 + (4 + (1 + k)) = 6 + k := by omega
  simpa [Notice.bytes, rowFrom, hshift, hlength] using hrecord

/-- A record without a detail has six bytes. -/
theorem Notice.laidOut_bytes_of_no_detail (hcode : body.code.toNat = code) (hsubject : body.subject.toNat = subject)
    (hdetail : body.detailBytes = []) :
    laidOut (Notice.bytes { epoch := epoch, body := body }) 6
      ([(0, 1, code), (1, 4, epoch.toNat), (5, 1, subject)] ++ []) :=
  Notice.laidOut_bytes epoch body hcode hsubject (rows := []) (hdetail ▸ laidOut_nil)

theorem Notice.laidOut_levelChanged (u : Fin 8) (old new : Level) (c r e : Bool) :
    laidOut (Notice.bytes { epoch := epoch, body := .levelChanged u old new c r e }) 9
      ([(0, 1, 0x01), (1, 4, epoch.toNat), (5, 1, u.val)] ++
        [(6, 1, old.val), (7, 1, new.val), (8, 1, yesBit c + 2 * yesBit r + 4 * yesBit e)]) := by
  have hmonitors : (byte (bits [c, r, e])).toNat = yesBit c + 2 * yesBit r + 4 * yesBit e :=
    (byte_toNat_of_lt ((bits_lt [c, r, e]).trans (show 2 ^ 3 < 256 by omega))).trans (bits_three c r e)
  exact Notice.laidOut_bytes epoch (.levelChanged u old new c r e) rfl (byte_toNat_slot u)
    (laidOut_code (byte_toNat_level old) (laidOut_code (byte_toNat_level new) (laidOut_code hmonitors laidOut_nil)))

/-- The record of an acknowledgement holds its source and, as a set, the slots that it changed. -/
theorem Notice.laidOut_acknowledged {source : AckSource} {sourceCode : Nat} (hsource : source.code.toNat = sourceCode)
    (changed : Table 8 Bool) :
    laidOut (Notice.bytes { epoch := epoch, body := .acknowledged source changed }) 8
      ([(0, 1, 0x02), (1, 4, epoch.toNat), (5, 1, 0xFF)] ++ [(6, 1, sourceCode)] ++ [(7, 1, bits changed.cells)]) :=
  Notice.laidOut_bytes epoch (.acknowledged source changed) rfl rfl
    (laidOut_code hsource (laidOut_code (byte_toNat_of_lt (bits_cells_lt changed)) laidOut_nil))

theorem Notice.laidOut_referenceRestored (p : Nat) :
    laidOut (Notice.bytes { epoch := epoch, body := .referenceRestored p }) 8
      ([(0, 1, 0x06), (1, 4, epoch.toNat), (5, 1, 0xFF)] ++ [(6, 2, p)]) :=
  Notice.laidOut_bytes epoch (.referenceRestored p) rfl rfl (laidOut_be16 laidOut_nil)

theorem Notice.laidOut_selfCheckResult (pass : Bool) (refMean gndMean : Nat) :
    laidOut (Notice.bytes { epoch := epoch, body := .selfCheckResult pass refMean gndMean }) 11
      ([(0, 1, 0x08), (1, 4, epoch.toNat), (5, 1, 0xFF)] ++
        [(6, 1, if pass then 1 else 2), (7, 2, refMean), (9, 2, gndMean)]) := by
  have hverdict : (if pass then Verdict.pass.code else Verdict.fail.code).toNat = if pass then 1 else 2 := by
    cases pass <;> rfl
  exact Notice.laidOut_bytes epoch (.selfCheckResult pass refMean gndMean) rfl rfl
    (laidOut_code hverdict (laidOut_be16 (laidOut_be16 laidOut_nil)))

/-- The record of a notice of the Capture Unit: its detail is the cause, with the slot or the channel that it names. -/
theorem Notice.laidOut_cause {x : Cause} {causeCode causedBy : Nat} (hcause : x.code.toNat = causeCode)
    (hcausedBy : x.subject.toNat = causedBy) (hcode : body.code.toNat = code) (hsubject : body.subject = 0xFF)
    (hdetail : body.detailBytes = [x.code, x.subject]) :
    laidOut (Notice.bytes { epoch := epoch, body := body }) 8
      ([(0, 1, code), (1, 4, epoch.toNat), (5, 1, 0xFF)] ++ [(6, 1, causeCode), (7, 1, causedBy)]) := by
  have hrows : laidOut body.detailBytes 2 [(0, 1, causeCode), (1, 1, causedBy)] := by
    rw [hdetail]
    exact laidOut_code hcause (laidOut_code hcausedBy laidOut_nil)
  exact Notice.laidOut_bytes epoch body hcode (congrArg BitVec.toNat hsubject) hrows

end

/-! ## FETCH NOTICE (R166, R167) -/

section
variable {s : State} {n : Byte} {p : List Byte}

/-- R167: the lost mark stays exactly if a notice remains. -/
theorem NoticeQueue.fetch_eq (n : Nat) (q : NoticeQueue) :
    q.fetch n = { queue := q.queue.drop n, lost := q.lost && decide (n < q.queue.length) } := by
  have hremains : (!(q.queue.drop n).isEmpty) = decide (n < q.queue.length) := by
    rw [Bool.eq_iff_iff]
    simp
  rw [NoticeQueue.fetch, hremains]

theorem State.takeFetchNotice_of_count (hlow : 1 ≤ n.toNat) (hhigh : n.toNat ≤ 4) :
    s.takeFetchNotice (n :: p) = (s.setNotices (s.notices.fetch n.toNat), .now .done
      (byte (min n.toNat s.notices.queue.length) :: (s.notices.queue.take n.toNat).flatMap Notice.bytes)) := by
  rw [State.takeFetchNotice, u8_cons_zero, if_pos ⟨hlow, hhigh⟩]
  simp only [List.length_take]

theorem State.takeFetchNotice_of_bad_count (h : n.toNat = 0 ∨ 4 < n.toNat) :
    s.takeFetchNotice (n :: p) = (s, refuseField .fetchNotice 1) := by
  rw [State.takeFetchNotice, u8_cons_zero, if_neg (by omega)]

end

/-! ## The obligation -/

/-- Settles O38: each record is laid out by its code, its subject and its detail; FETCH NOTICE is the answer of the
queue to the request in service. -/
theorem fetchNoticeRemovesTheOldest : Obligations.FetchNoticeRemovesTheOldest := by
  unfold Obligations.FetchNoticeRemovesTheOldest
  refine ⟨fun epoch => ?_, fun s tag n hrdy hs => ⟨fun hlow hhigh => ?_, fun hbad => ?_⟩⟩
  · have hacknowledged := fun source => Notice.laidOut_acknowledged epoch (AckSource.code_toNat source)
    have hplain := Notice.laidOut_bytes_of_no_detail epoch
    have hcause {code : Nat} (x : Cause) (body : NoticeBody) :=
      Notice.laidOut_cause (code := code) epoch body x.code_toNat x.subject_toNat
    refine ⟨Notice.laidOut_levelChanged epoch,
      fun source changed => ⟨laidOut_of_append (hacknowledged source changed), fun u => ?_⟩,
      fun i => ⟨hplain _ rfl (byte_toNat_channel i) rfl, hplain _ rfl (byte_toNat_channel i) rfl⟩,
      hplain _ rfl rfl rfl, Notice.laidOut_referenceRestored epoch, hplain _ rfl rfl rfl,
      Notice.laidOut_selfCheckResult epoch, hplain _ rfl rfl rfl, fun u => hplain _ rfl (byte_toNat_slot u) rfl,
      fun x => ⟨hcause x (.captureFrozen x) rfl rfl rfl, hcause x (.captureMissed x) rfl rfl rfl,
        hcause x (.holdRevoked x) rfl rfl rfl⟩⟩
    have hset := (hacknowledged source changed).2 7 1 _ (List.mem_append_right _ (List.mem_singleton_self _))
      (bits_cells_lt changed)
    rw [hset, testBit_bits_cells]
  · rw [← NoticeQueue.fetch_eq]
    exact congrArg Host.Outcome.next (State.serve_of_owner (s2 := s.setNotices (s.notices.fetch n.toNat)) hs rfl
      (State.takeFetchNotice_of_count (s := s.enterService ..) hlow hhigh) hrdy)
  · exact congrArg Host.Outcome.next (State.serve_of_owner hs rfl (State.takeFetchNotice_of_bad_count hbad) hrdy)

end Sys2Proof.Machine

/-! What a command can do (section 3 of the manual): the kinds of request by what their owning block makes of them, the
effects of every other command, and the parts of a completion; each in one inversion lemma, from which the statements
about every step follow. -/

namespace Sys2Proof.Machine

/-! ## The owner of a request (R159) -/

/-- What the block that owns a request of kind `k` with payload `p` makes of it, on its own state. -/
def RequestKind.owner (p : List Byte) : RequestKind → State → State × Answer
  | .status => State.takeStatus
  | .readTracker => State.takeReadTracker
  | .readChannel => State.takeReadChannel p
  | .readTransformer => State.takeReadTransformer p
  | .fetchNotice => State.takeFetchNotice p
  | .setGeneral => State.takeSet .setGeneral 0 (generalChecks p) (writeGeneral p)
  | .setChannel => State.takeSet .setChannel (u8 p 0) (channelChecks p) (writeChannel p)
  | .setTransformer => State.takeSet .setTransformer (u8 p 0) (transformerChecks p) (writeTransformer p)
  | .setCurve => State.takeSet .setCurve (u8 p 0) (curveChecks p) (writeCurve p)
  | .setMonitors => State.takeSet .setMonitors (u8 p 0) (monitorsChecks p) (writeMonitors p)
  | .setContact => State.takeSet .setContact (u8 p 0) (contactChecks p) (writeContact p)
  | .setAnnunciator => State.takeSet .setAnnunciator 0 (annunciatorChecks p) (writeAnnunciator p)
  | .readSettings => State.takeReadSettings p
  | .commit => State.takeCommit
  | .discard => State.takeDiscard
  | .acknowledge => State.takeAcknowledge p
  | .silence => State.takeSilence
  | .clearExposure => State.takeClearExposure p
  | .presetThermal => State.takePresetThermal p
  | .selfCheck => State.takeSelfCheck
  | .captureTrigger => State.takeCaptureTrigger
  | .captureHold => State.takeCaptureHold
  | .captureRelease => State.takeCaptureRelease
  | .captureRead => State.takeCaptureRead p
  | .captureInfo => State.takeCaptureInfo
  | .restart => fun s => (s, .thenRestart)

theorem exec_command (k : RequestKind) (tag : Byte) (p : List Byte) (hrdy : Bool) (s : State) :
    exec (k.command tag p hrdy) s = .next (s.serve k (k.owner p) tag p hrdy) := by
  cases k <;> rfl

/-! ## What a SET writes stays in range (section 8.2) -/

theorem firstFailure_eq_none {checks : List FieldCheck} :
    firstFailure checks = none ↔ ∀ c ∈ checks, c.2 = true := by
  induction checks with
  | nil => simp [firstFailure]
  | cons c rest ih =>
    obtain ⟨n, ok⟩ := c
    cases ok <;> simp [firstFailure, ih]

theorem within_iff {lo hi x : Nat} : within lo hi x = true ↔ lo ≤ x ∧ x ≤ hi := by simp [within]

theorem u8_lt (p : List Byte) (o : Nat) : u8 p o < 256 := (p.getD o 0).isLt

theorem u16_lt (p : List Byte) (o : Nat) : u16 p o < 65536 := by
  have := u8_lt p o
  have := u8_lt p (o + 1)
  unfold u16
  omega

theorem u32_lt (p : List Byte) (o : Nat) : u32 p o < 4294967296 := by
  have := u16_lt p o
  have := u16_lt p (o + 2)
  unfold u32
  omega

theorem s16_range (p : List Byte) (o : Nat) : -32768 ≤ s16 p o ∧ s16 p o ≤ 32767 := by
  have hlo := BitVec.le_toInt (BitVec.ofNat 16 (u16 p o))
  have hhi := BitVec.toInt_lt (x := BitVec.ofNat 16 (u16 p o))
  unfold s16
  constructor <;> omega

theorem levelOf_val {n : Nat} (h : n ≤ 3) : (levelOf n).val = n := by
  simp [levelOf, Fin.ofNat]; omega

section
variable {p : List Byte}

theorem readGeneral_inRange (h : firstFailure (generalChecks p) = none) : (readGeneral p).inRange := by
  have hall := firstFailure_eq_none.mp h
  simp only [generalChecks, List.mem_cons, forall_eq_or_imp, within_iff, List.not_mem_nil, false_implies,
    implies_true, and_true] at hall
  obtain ⟨hcycles, hinterval, -, hlevel, -, hdepth⟩ := hall
  refine ⟨hcycles.1, hcycles.2, hinterval.2, ?_, hdepth.2⟩
  have := levelOf_val hlevel.2
  simp only [readGeneral, Fin.le_def]
  omega

theorem readChannelItem_inRange (h : firstFailure (channelChecks p) = none) : (readChannelItem p).inRange := by
  have hall := firstFailure_eq_none.mp h
  simp only [channelChecks, List.mem_cons, forall_eq_or_imp, within_iff, List.not_mem_nil, false_implies,
    implies_true, and_true, Bool.and_eq_true, decide_eq_true_eq] at hall
  obtain ⟨-, -, htrim, hstep⟩ := hall
  exact ⟨htrim.1, htrim.2, (s16_range p 4).1, (s16_range p 4).2, hstep.2⟩

theorem termWeightOk_iff (k : Nat) : termWeightOk p k = true ↔
    (k < u8 p 2 → -4096 ≤ s16 p (termOffset k + 1) ∧ s16 p (termOffset k + 1) ≤ 4095 ∧
      s16 p (termOffset k + 1) ≠ 0) := by
  rcases Nat.lt_or_ge k (u8 p 2) with hk | hk
  · simp [termWeightOk, hk, Nat.not_le.mpr hk, and_assoc]
  · simp [termWeightOk, hk, Nat.not_lt.mpr hk]

theorem readTransformerItem_inRange (h : firstFailure (transformerChecks p) = none) :
    (readTransformerItem p).inRange := by
  have hall := firstFailure_eq_none.mp h
  simp only [transformerChecks, List.mem_cons, forall_eq_or_imp, within_iff, List.not_mem_nil, false_implies,
    implies_true, and_true, termWeightOk_iff] at hall
  obtain ⟨-, -, hcount, -, -, -, hweight0, hweight1, hweight2, hup, hdown, hfloor⟩ := hall
  refine ⟨by simpa [readTransformerItem] using hcount.2, fun w hw => ?_, hup.1, hup.2, hdown.1, hdown.2, hfloor.2⟩
  obtain ⟨k, hk, rfl⟩ := List.mem_map.mp hw
  have hk := List.mem_range.mp hk
  match k, hk with
  | 0, hk => exact hweight0 hk
  | 1, hk => exact hweight1 hk
  | 2, hk => exact hweight2 hk
  | k + 3, hk => omega

theorem readCurve_inRange (h : firstFailure (curveChecks p) = none) : curveInRange (readCurve p) := by
  have hall := firstFailure_eq_none.mp h
  simp only [curveChecks, List.mem_append, List.mem_cons, List.mem_map, List.mem_range, List.not_mem_nil] at hall
  have hcheck : within 0 8 (u8 p 1) = true := hall _ (.inl (.inl (.inr (.inl rfl))))
  have hcount := (within_iff.mp hcheck).2
  refine ⟨by simpa [readCurve] using hcount, fun b hb => ?_⟩
  obtain ⟨k, hk, rfl⟩ := List.mem_map.mp hb
  have hk := List.mem_range.mp hk
  have hcurrent := hall _ (.inl (.inr ⟨k, by omega, rfl⟩))
  have hrise := hall _ (.inr ⟨k, by omega, rfl⟩)
  simp only [Bool.or_eq_true, decide_eq_true_eq, within_iff] at hcurrent hrise
  have hwithin := Nat.not_le.mpr hk
  exact ⟨(hcurrent.resolve_left hwithin).1, (hcurrent.resolve_left hwithin).2, (hrise.resolve_left hwithin).2⟩

theorem readMonitors_inRange (h : firstFailure (monitorsChecks p) = none) : (readMonitors p).inRange := by
  have hall := firstFailure_eq_none.mp h
  simp only [monitorsChecks, List.mem_cons, forall_eq_or_imp, within_iff, List.not_mem_nil, false_implies,
    implies_true, and_true] at hall
  obtain ⟨-, hc1, hc2, hc3, hr1, hr2, hr3, hhc, hhr, hup, hdown⟩ := hall
  have he (o : Nat) : u32 p o ≤ 4294967295 := Nat.le_of_lt_succ (u32_lt p o)
  exact ⟨⟨hc1.2, hc2.2, hc3.2⟩, ⟨hr1.2, hr2.2, hr3.2⟩, ⟨he 13, he 17, he 21⟩, hhc.2, hhr.2, hup.1, hup.2, hdown⟩

theorem readContact_inRange (h : firstFailure (contactChecks p) = none) : (readContact p).source.inRange = true := by
  have hall := firstFailure_eq_none.mp h
  simp only [contactChecks, List.mem_cons, forall_eq_or_imp, within_iff, List.not_mem_nil, false_implies,
    implies_true, and_true, Bool.or_eq_true, Bool.and_eq_true, bne_iff_ne] at hall
  obtain ⟨-, -, -, -, hlevel, -⟩ := hall
  have hused (hk : u8 p 2 = 1 ∨ u8 p 2 = 2) : 1 ≤ levelOf (u8 p 4) := by
    have hrange : 1 ≤ u8 p 4 ∧ u8 p 4 ≤ 3 := hlevel.resolve_left (by omega)
    have := levelOf_val hrange.2
    simp only [Fin.le_def]
    omega
  simp only [readContact, readSource]
  split <;> simp_all [ContactSource.inRange]

theorem readAnnunciator_inRange (h : firstFailure (annunciatorChecks p) = none) : (readAnnunciator p).inRange := by
  have hall := firstFailure_eq_none.mp h
  simp only [annunciatorChecks, List.mem_cons, forall_eq_or_imp, within_iff, List.not_mem_nil, false_implies,
    implies_true, and_true] at hall
  obtain ⟨htone, hloud, h1, h2, h3, hfast, hslow, -, hchirp⟩ := hall
  exact ⟨htone.2, hloud.1, hloud.2, h1, h2, h3, hfast, hslow, hchirp.2⟩

/-- A table whose cells all meet a condition meets it still when a cell that does is put in it. -/
theorem Table.forall_set {n : Nat} {α : Type} {P : α → Prop} {t : Table n α} (ht : ∀ i, P (t.get i)) {x : α} (hx : P x)
    (j : Fin n) : ∀ i, P ((t.set j x).get i) := by
  intro i
  rw [Table.get_set]
  split
  · exact hx
  · exact ht i

end

/-! ## What a request can do -/

/-- `Taken s k x a`: the owner of a request of kind `k`, taking it in state `s`, can leave `x` and answer `a`. -/
inductive Taken (s : State) : RequestKind → State → Answer → Prop
  | refused (k : RequestKind) (status : ReplyStatus) (body : List Byte) (h : status ≠ .done) :
    Taken s k s (.now status body)
  | read (k : RequestKind) (body : List Byte) : Taken s k s (.now .done body)
  | fetched (n : Nat) (body : List Byte) :
    Taken s .fetchNotice (s.setNotices (s.notices.fetch n)) (.now .done body)
  | stored (k : RequestKind) (c : Settings) (hopen : s.store.isSealed = false)
    (hrange : s.store.pending.inRange → c.inRange) :
    Taken s k (s.setStore { s.store with pending := c }) doneEmpty
  | committed (hopen : s.store.isSealed = false) (hchecked : commitFailure s.store.pending = none) :
    Taken s .commit (s.setStore { s.store with isSealed := true }) doneEmpty
  | discarded : Taken s .discard (s.setStore s.store.revert) doneEmpty
  | acknowledged (sel : Fin 8 → Bool) (body : List Byte) (hsel : ∀ u, sel u = true → s.isDefined u = true) :
    Taken s .acknowledge (s.acknowledgeSlots .request sel) (.now .done body)
  | silenced : Taken s .silence ((s.setAnn { s.ann with silenced := true }).reformHorn s) doneEmpty
  | cleared (x : Table 8 Slot) (hx : ∀ u, x.get u = s.slots.get u ∨
      s.isDefined u = true ∧ x.get u = { s.slots.get u with thermal := (s.slots.get u).thermal.clear }) :
    Taken s .clearExposure (s.setSlots x) doneEmpty
  | preset (u : Fin 8) (rise exposure : Nat) (hdefined : s.isDefined u = true) (hmax : exposure ≤ 4294967295) :
    Taken s .presetThermal
      (s.modifyThermal u (Thermal.preset (topRise (s.applied.curves.get u)) rise exposure)) doneEmpty
  | scheduled : Taken s .selfCheck (s.setCond { s.cond with selfCheck := .scheduled, origin := some .request }) doneEmpty
  | triggered (h : s.capture.state = .armed) :
    Taken s .captureTrigger (s.setCapture (s.capture.trigger s.applied.general.preDepth s.requestTrigger)) doneEmpty
  | revoked (h : s.capture.state = .held) :
    Taken s .captureTrigger ((s.setCapture
      (s.capture.trigger s.applied.general.preDepth s.requestTrigger)).notify (.holdRevoked .request)) doneEmpty
  | pended (h : s.capture.state = .armed) :
    Taken s .captureHold (s.setCapture { s.capture with holdPending := true }) .wait
  | rearmed (h : s.capture.state = .held) :
    Taken s .captureRelease (s.setCapture { s.capture with state := .armed }) doneEmpty
  | released (h : s.capture.state = .frozen) : Taken s .captureRelease (s.setCapture s.capture.release) doneEmpty
  | restarting : Taken s .restart s .thenRestart

/-- A SET (R141) is refused, or stores an item whose every field has passed its check. -/
theorem taken_takeSet (s : State) (k : RequestKind) (index : Nat) (checks : List FieldCheck)
    (write : Settings → Settings) (hwrite : firstFailure checks = none → s.store.pending.inRange →
      (write s.store.pending).inRange) :
    Taken s k (s.takeSet k index checks write).1 (s.takeSet k index checks write).2 := by
  unfold State.takeSet
  cases hseal : s.store.isSealed with
  | true => exact .refused k _ _ (by decide)
  | false =>
    cases hfail : firstFailure checks with
    | some field => exact .refused k _ _ (by decide)
    | none => exact .stored k _ hseal (hwrite hfail)

/-- What the owner of a request can make of it. -/
theorem taken_owner (s : State) (k : RequestKind) (p : List Byte) : Taken s k (k.owner p s).1 (k.owner p s).2 := by
  cases k with
  | status => exact .read _ _
  | readTracker => exact .read _ _
  | readChannel =>
    simp only [RequestKind.owner, State.takeReadChannel]
    split
    · exact .refused _ _ _ (by decide)
    · exact .read _ _
  | readTransformer =>
    simp only [RequestKind.owner, State.takeReadTransformer]
    split
    · exact .refused _ _ _ (by decide)
    · exact .read _ _
  | fetchNotice =>
    simp only [RequestKind.owner, State.takeFetchNotice]
    split
    · exact .fetched _ _
    · exact .refused _ _ _ (by decide)
  | setGeneral =>
    refine taken_takeSet _ _ _ _ _ fun hpass ⟨_, hrest⟩ => ⟨readGeneral_inRange hpass, hrest⟩
  | setChannel =>
    refine taken_takeSet _ _ _ _ _ fun hpass ⟨hg, hc, hrest⟩ =>
      ⟨hg, Table.forall_set hc (readChannelItem_inRange hpass) _, hrest⟩
  | setTransformer =>
    refine taken_takeSet _ _ _ _ _ fun hpass ⟨hg, hc, ht, hrest⟩ =>
      ⟨hg, hc, Table.forall_set ht (readTransformerItem_inRange hpass) _, hrest⟩
  | setCurve =>
    refine taken_takeSet _ _ _ _ _ fun hpass ⟨hg, hc, ht, hv, hrest⟩ =>
      ⟨hg, hc, ht, Table.forall_set hv (readCurve_inRange hpass) _, hrest⟩
  | setMonitors =>
    refine taken_takeSet _ _ _ _ _ fun hpass ⟨hg, hc, ht, hv, hm, hrest⟩ =>
      ⟨hg, hc, ht, hv, Table.forall_set hm (readMonitors_inRange hpass) _, hrest⟩
  | setContact =>
    refine taken_takeSet _ _ _ _ _ fun hpass ⟨hg, hc, ht, hv, hm, hk, ha⟩ =>
      ⟨hg, hc, ht, hv, hm,
        Table.forall_set (P := fun x : ContactItem => x.source.inRange = true) hk (readContact_inRange hpass) _, ha⟩
  | setAnnunciator =>
    refine taken_takeSet _ _ _ _ _ fun hpass ⟨hg, hc, ht, hv, hm, hk, _⟩ =>
      ⟨hg, hc, ht, hv, hm, hk, readAnnunciator_inRange hpass⟩
  | readSettings =>
    simp only [RequestKind.owner, State.takeReadSettings]
    split
    · exact .refused _ _ _ (by decide)
    · exact .refused _ _ _ (by decide)
    · split
      · exact .read _ _
      · exact .refused _ _ _ (by decide)
  | commit =>
    simp only [RequestKind.owner, State.takeCommit]
    cases hseal : s.store.isSealed with
    | true => exact .refused _ _ _ (by decide)
    | false =>
      cases hfail : commitFailure s.store.pending with
      | some f => exact .refused _ _ _ (by decide)
      | none => exact .committed hseal hfail
  | discard => exact .discarded
  | acknowledge =>
    simp only [RequestKind.owner, State.takeAcknowledge]
    split
    · exact .refused _ _ _ (by decide)
    · next t _ =>
      split
      · next hdefined =>
        exact .acknowledged _ _ fun u hu => (of_decide_eq_true hu : u = t) ▸ hdefined
      · exact .refused _ _ _ (by decide)
    · exact .acknowledged _ _ fun u hu => hu
  | silence =>
    simp only [RequestKind.owner, State.takeSilence]
    split
    · exact .silenced
    · exact .read _ _
  | clearExposure =>
    simp only [RequestKind.owner, State.takeClearExposure]
    split
    · exact .refused _ _ _ (by decide)
    · next t _ =>
      split
      · next hdefined =>
        refine .cleared _ fun u => ?_
        rw [Table.get_modify]
        split
        · next hu => exact .inr ⟨hu ▸ hdefined, rfl⟩
        · exact .inl rfl
      · exact .refused _ _ _ (by decide)
    · refine .cleared _ fun u => ?_
      rw [Table.get_ofFn]
      split
      · next hdefined => exact .inr ⟨hdefined, rfl⟩
      · exact .inl rfl
  | presetThermal =>
    simp only [RequestKind.owner, State.takePresetThermal]
    split
    · exact .refused _ _ _ (by decide)
    · split
      · next hdefined => exact .preset _ _ _ hdefined (Nat.le_of_lt_succ (u32_lt p 3))
      · exact .refused _ _ _ (by decide)
  | selfCheck =>
    simp only [RequestKind.owner, State.takeSelfCheck]
    split
    · exact .refused _ _ _ (by decide)
    · exact .refused _ _ _ (by decide)
    all_goals exact .scheduled
  | captureTrigger =>
    simp only [RequestKind.owner, State.takeCaptureTrigger]
    split
    · next h => exact .triggered h
    · next h => exact .revoked h
    all_goals exact .refused _ _ _ (by decide)
  | captureHold =>
    simp only [RequestKind.owner, State.takeCaptureHold]
    split
    · next h => exact .pended h
    · exact .read _ _
    · exact .read _ _
    · exact .refused _ _ _ (by decide)
  | captureRelease =>
    simp only [RequestKind.owner, State.takeCaptureRelease]
    split
    · next h => exact .rearmed h
    · next h => exact .released h
    all_goals exact .refused _ _ _ (by decide)
  | captureRead =>
    simp only [RequestKind.owner, State.takeCaptureRead]
    split
    · exact .refused _ _ _ (by decide)
    · exact .refused _ _ _ (by decide)
    all_goals
      split
      · exact .refused _ _ _ (by decide)
      · split
        · exact .refused _ _ _ (by decide)
        · exact .read _ _
  | captureInfo => exact .read _ _
  | restart => exact .restarting

end Sys2Proof.Machine

namespace Sys2Proof.Machine

/-! ## The life of a request (R156 to R159) -/

/-- What an owner's answer makes of the link, in the state `x` that the owner left. -/
def State.responded (x : State) (k : RequestKind) (tag : Byte) (p : List Byte) (hrdy : Bool) : Answer → State
  | .now status body => x.answered k tag p status body hrdy
  | .thenRestart => x.replied k.code tag p .restarting .done [] hrdy
  | .wait => x.setLink { x.link with
      service := some { kind := k.code, tag := tag, payload := p, stage := .holding } }

section
variable (x : State) (k : RequestKind) (tag : Byte) (p : List Byte) (hrdy : Bool) (a : Answer)

/-- A response touches the link alone. -/
theorem State.responded_eq : ∃ l, x.responded k tag p hrdy a = x.setLink l := by
  cases a <;> exact ⟨_, rfl⟩

@[simp] theorem State.responded_pending : (x.responded k tag p hrdy a).pending = x.pending := by cases a <;> rfl
@[simp] theorem State.responded_time : (x.responded k tag p hrdy a).time = x.time := by cases a <;> rfl
@[simp] theorem State.responded_tracker : (x.responded k tag p hrdy a).tracker = x.tracker := by cases a <;> rfl
@[simp] theorem State.responded_scanner : (x.responded k tag p hrdy a).scanner = x.scanner := by cases a <;> rfl
@[simp] theorem State.responded_cond : (x.responded k tag p hrdy a).cond = x.cond := by cases a <;> rfl
@[simp] theorem State.responded_slots : (x.responded k tag p hrdy a).slots = x.slots := by cases a <;> rfl
@[simp] theorem State.responded_ann : (x.responded k tag p hrdy a).ann = x.ann := by cases a <;> rfl
@[simp] theorem State.responded_capture : (x.responded k tag p hrdy a).capture = x.capture := by cases a <;> rfl
@[simp] theorem State.responded_store : (x.responded k tag p hrdy a).store = x.store := by cases a <;> rfl
@[simp] theorem State.responded_notices : (x.responded k tag p hrdy a).notices = x.notices := by cases a <;> rfl
@[simp] theorem State.responded_flight : (x.responded k tag p hrdy a).flight = x.flight := by cases a <;> rfl

/-- A response overwrites whatever the link said of the request. -/
theorem State.responded_enterService (kind tag' : Byte) (p' : List Byte) :
    (x.enterService kind tag' p').responded k tag p hrdy a = x.responded k tag p hrdy a := by
  cases a <;> rfl

end

/-! ## An owner and the link -/

theorem State.reformHorn_setLink (s before : State) (l : Link) :
    (s.setLink l).reformHorn (before.setLink l) = (s.reformHorn before).setLink l := by
  have hkey (x : State) : (x.setLink l).hornKey = x.hornKey := rfl
  have hsource (x : State) : (x.setLink l).lineSource = x.lineSource := rfl
  have htone (x : State) : (x.setLink l).reformTone = x.reformTone.setLink l := by
    simp only [State.reformTone, hsource, State.setLink_ann]
    repeat' split
    all_goals rfl
  rw [State.reformHorn, State.reformHorn, ← htone, State.reformPattern, State.reformPattern, hkey, hkey]
  split <;> rfl

theorem State.acknowledgeSlots_setLink (src : AckSource) (sel : Fin 8 → Bool) (s : State) (l : Link) :
    (s.setLink l).acknowledgeSlots src sel = (s.acknowledgeSlots src sel).setLink l := by
  have hset : (s.setLink l).ackSet sel = s.ackSet sel := rfl
  simp only [State.acknowledgeSlots, hset]
  split
  · rw [← State.reformHorn_setLink]
    refine congrArg (State.reformHorn · (s.setLink l)) ?_
    cases hchirp : s.applied.annunciator.chirpEnable <;>
      simp only [State.setLink_applied, hchirp, if_true, if_false, Bool.false_eq_true] <;> rfl
  · rfl

/-- The owner of a request neither reads the link nor changes it. -/
theorem Taken.of_setLink {s : State} {l : Link} {k : RequestKind} {x : State} {a : Answer}
    (h : Taken (s.setLink l) k x a) : ∃ y, Taken s k y a ∧ y.link = s.link ∧ x = y.setLink l := by
  cases h with
  | refused _ status body h => exact ⟨s, .refused k status body h, rfl, rfl⟩
  | read _ body => exact ⟨s, .read k body, rfl, rfl⟩
  | fetched n body => exact ⟨_, .fetched n body, rfl, rfl⟩
  | stored _ c hopen hrange => exact ⟨_, .stored k c hopen hrange, rfl, rfl⟩
  | committed hopen hchecked => exact ⟨_, .committed hopen hchecked, rfl, rfl⟩
  | discarded => exact ⟨_, .discarded, rfl, rfl⟩
  | acknowledged sel body hsel =>
    exact ⟨_, .acknowledged sel body hsel, s.acknowledgeSlots_link .request sel,
      State.acknowledgeSlots_setLink .request sel s l⟩
  | silenced => exact ⟨_, .silenced, State.reformHorn_link _ s, State.reformHorn_setLink
      (s.setAnn { s.ann with silenced := true }) s l⟩
  | cleared slots hslots => exact ⟨_, .cleared slots hslots, rfl, rfl⟩
  | preset u rise exposure hdefined hmax => exact ⟨_, .preset u rise exposure hdefined hmax, rfl, rfl⟩
  | scheduled => exact ⟨_, .scheduled, rfl, rfl⟩
  | triggered h => exact ⟨_, .triggered h, rfl, rfl⟩
  | revoked h => exact ⟨_, .revoked h, rfl, rfl⟩
  | pended h => exact ⟨_, .pended h, rfl, rfl⟩
  | rearmed h => exact ⟨_, .rearmed h, rfl, rfl⟩
  | released h => exact ⟨_, .released h, rfl, rfl⟩
  | restarting => exact ⟨_, .restarting, rfl, rfl⟩

/-- What becomes of a request that a part that can serve takes: its owner takes it and it is answered, or waits
(R156 to R159). -/
theorem State.serve_taken {s : State} (hs : s.canServe) (k : RequestKind) (tag : Byte) (p : List Byte) (hrdy : Bool) :
    ∃ x a, Taken s k x a ∧ x.link = s.link ∧ s.serve k (k.owner p) tag p hrdy = x.responded k tag p hrdy a := by
  rcases eq_or_ne p.length k.length with hlength | hlength
  · obtain ⟨y, hy, hlink, e⟩ := (taken_owner (s.enterService k.code tag p) k p).of_setLink
    have howner : k.owner p (s.enterService k.code tag p) =
        (y.enterService k.code tag p, (k.owner p (s.enterService k.code tag p)).2) := by
      refine Prod.ext (e.trans ?_) rfl
      simp only [State.enterService, hlink]
    refine ⟨y, _, hy, hlink, ?_⟩
    generalize (k.owner p (s.enterService k.code tag p)).2 = a at howner
    cases a with
    | now status body => exact State.serve_of_owner hs hlength howner hrdy
    | wait => exact State.serve_of_wait hs hlength howner hrdy
    | thenRestart =>
      rw [State.serve, s.entry_taken _ _ _ hs]
      simp only [if_pos hlength, howner, State.giveAnswer]
      exact State.answerTo_eq _ k.code tag p .entered .restarting .done [] hrdy rfl
  · exact ⟨s, _, .refused k .refusedLength [] (by decide), rfl, s.serve_short k _ tag p hrdy hs hlength⟩

/-! ## A request that finds another in service (R156, R157) -/

/-- `s` with no request in service. -/
def State.unoccupied (s : State) : State := s.setLink { s.link with service := none }

@[simp] theorem State.unoccupied_pending (s : State) : s.unoccupied.pending = s.pending := rfl
@[simp] theorem State.unoccupied_time (s : State) : s.unoccupied.time = s.time := rfl
@[simp] theorem State.unoccupied_tracker (s : State) : s.unoccupied.tracker = s.tracker := rfl
@[simp] theorem State.unoccupied_scanner (s : State) : s.unoccupied.scanner = s.scanner := rfl
@[simp] theorem State.unoccupied_cond (s : State) : s.unoccupied.cond = s.cond := rfl
@[simp] theorem State.unoccupied_slots (s : State) : s.unoccupied.slots = s.slots := rfl
@[simp] theorem State.unoccupied_ann (s : State) : s.unoccupied.ann = s.ann := rfl
@[simp] theorem State.unoccupied_capture (s : State) : s.unoccupied.capture = s.capture := rfl
@[simp] theorem State.unoccupied_store (s : State) : s.unoccupied.store = s.store := rfl
@[simp] theorem State.unoccupied_notices (s : State) : s.unoccupied.notices = s.notices := rfl
@[simp] theorem State.unoccupied_flight (s : State) : s.unoccupied.flight = s.flight := rfl
@[simp] theorem State.unoccupied_applied (s : State) : s.unoccupied.applied = s.applied := rfl
@[simp] theorem State.unoccupied_isDefined (s : State) (u : Fin 8) : s.unoccupied.isDefined u = s.isDefined u := rfl

theorem State.unoccupied_of_none {s : State} (h : s.link.service = none) : s.unoccupied = s := by
  unfold State.unoccupied
  rw [← h]
  rfl

/-- The part is RUNNING, and the request in service, if there is one, has entered and is not dispatched. -/
def State.takesRequest (s : State) : Prop :=
  s.time.phase = .running ∧ ∀ r, s.link.service = some r → r.stage = .entered

theorem State.unoccupied_canServe {s : State} (h : s.time.phase = .running) : s.unoccupied.canServe := ⟨h, rfl⟩

/-- A request that stands in service as received is dispatched as if it came then (R156, R158). -/
theorem State.serve_entered {s : State} {k : RequestKind} {tag : Byte} {p : List Byte} (hrun : s.time.phase = .running)
    (hs : s.link.service = some { kind := k.code, tag := tag, payload := p, stage := .entered })
    (owner : State → State × Answer) (hrdy : Bool) :
    s.serve k owner tag p hrdy = s.unoccupied.serve k owner tag p hrdy := by
  have hentry : s.entry k.code tag p = .taken := by simp [State.entry, s.isRunning_iff.mpr hrun, hs]
  rw [State.serve, State.serve, hentry, s.unoccupied.entry_taken _ _ _ (State.unoccupied_canServe hrun)]
  rfl

/-- What becomes of a request in any state (R1, R156, R157). -/
theorem State.serve_cases (s : State) (k : RequestKind) (tag : Byte) (p : List Byte) (hrdy : Bool) :
    s.serve k (k.owner p) tag p hrdy = s ∨
    (s.link.service ≠ none ∧ s.serve k (k.owner p) tag p hrdy = s.dropFrame) ∨
    (s.takesRequest ∧ ∃ x a, Taken s.unoccupied k x a ∧ x.link = s.unoccupied.link ∧
      s.serve k (k.owner p) tag p hrdy = x.responded k tag p hrdy a) := by
  cases hphase : s.time.phase with
  | starting => exact .inl (s.serve_starting k _ tag p hrdy hphase)
  | running =>
    have htaken := State.serve_taken (State.unoccupied_canServe hphase) k tag p hrdy
    cases hservice : s.link.service with
    | none =>
      rw [State.unoccupied_of_none hservice] at htaken ⊢
      exact .inr (.inr ⟨⟨hphase, by simp [hservice]⟩, htaken⟩)
    | some r =>
      rcases eq_or_ne r { kind := k.code, tag := tag, payload := p, stage := .entered } with rfl | hne
      · rw [← State.serve_entered hphase hservice] at htaken
        exact .inr (.inr ⟨⟨hphase, by simp [hservice]⟩, htaken⟩)
      · exact .inr (.inl ⟨by simp, s.serve_dropped k _ tag p hrdy r hphase hservice hne⟩)

/-! ## What every command can do -/

/-- `Effect s c t`: command `c`, which is no completion, can leave `t` in state `s`. -/
inductive Effect (s : State) : Instr → State → Prop
  | stays (c : Instr) : Effect s c s
  | dropped (c : Instr) (h : s.link.service ≠ none) : Effect s c s.dropFrame
  | reset (rate : BitVec 2) (fnom : Fnom) :
    Effect s (.powerOnReset rate fnom) { State.powerOn rate fnom with pending := s.pending }
  | started (h : s.time.phase = .starting) : Effect s .startingEnd
      ((s.setTime { s.time with phase := .running }).startCycle s.scanner.cycleNumber
        (s.tracker.cycleStart s.time.fnom))
  | crossed : Effect s .zrefRisingCrossing (s.moveTracker s.tracker.crossing)
  | expired : Effect s .missingCrossingExpiry (s.moveTracker s.tracker.expiry)
  | slotFell (c : Cycle) (hc : s.scanner.cycle = some c) :
    Effect s .sampleSlot (s.setScanner { s.scanner with cycle := some c.takeSlot })
  | converted (v : Int) (c : Cycle) (hc : s.scanner.cycle = some c) (i : Fin 16) :
    Effect s (.conversionComplete v) ((s.setScanner { s.scanner with cycle := some (c.takeCode (adcCode v)) }).setCapture
      { s.capture with current := s.capture.current.map (·.collect i (adcCode v)) })
  | summed (v : Int) (c : Cycle) (hc : s.scanner.cycle = some c) :
    Effect s (.conversionComplete v) (s.setScanner { s.scanner with cycle := some (c.takeCode (adcCode v)) })
  | beat (ackb : Bool) : Effect s (.beatExpiry ackb) (s.beat ackb)
  | received (c : Instr) (r : Receiver) : Effect s c (s.setLink { s.link with receiver := r, byteTicks := 0 })
  | framed (c : Instr) (r : Receiver) (bs : List Byte) :
    Effect s c ((s.setLink { s.link with receiver := r, byteTicks := 0 }).handFrame bs)
  | unknownKind (kind tag : Byte) (p : List Byte) (hrdy : Bool) (hs : s.takesRequest) :
    Effect s (.requestUnknownKind kind tag p hrdy)
      (s.unoccupied.replied kind tag p .answered .refusedKind [] hrdy)
  | served (k : RequestKind) (tag : Byte) (p : List Byte) (hrdy : Bool) (x : State) (a : Answer) (hs : s.takesRequest)
    (hx : Taken s.unoccupied k x a) (hlink : x.link = s.unoccupied.link) :
    Effect s (k.command tag p hrdy) (x.responded k tag p hrdy a)
  | replyStarted (r : Reply) (h : s.link.tx = .waitHrdy r) : Effect s .hrdyAsserted (s.startReply r)
  | replyEnded (h : s.replyOver = true) : Effect s .replySent s.endReply
  | toneEdge : Effect s .tonePeriod (s.setAnn { s.ann with tone := s.ann.tone.map (Tone.edge s.applied.annunciator) })

/-- `Begins s c x`: a completion `c` in state `s` takes its parts from `x` on. -/
inductive Begins (s : State) : Instr → State → Prop
  | delivered (order : List CompletionPart) (whole hrdy : Bool) (c : Cycle) (hc : s.scanner.cycle = some c)
    (hparts : s.flight.parts = []) :
    Begins s (.cycleCompletion order whole hrdy)
      (s.setFlight { s.flight with parts := cycleParts, entries := c.sums, steps := s.stepTriggers c })
  | cycleGoesOn (order : List CompletionPart) (whole hrdy : Bool) (h : .settings ∉ s.flight.parts) :
    Begins s (.cycleCompletion order whole hrdy) s
  | raised (order : List CompletionPart) (whole hrdy : Bool) (h : .settings ∉ s.flight.parts) :
    Begins s (.epochCompletion order whole hrdy) s.raiseEpoch
  | epochGoesOn (order : List CompletionPart) (whole hrdy : Bool) (h : .settings ∈ s.flight.parts) :
    Begins s (.epochCompletion order whole hrdy) s

theorem State.takeParts_append (hrdy : Bool) (a b : List CompletionPart) (s : State) :
    s.takeParts hrdy (a ++ b) = (s.takeParts hrdy a).takeParts hrdy b := List.foldl_append ..

/-- The parts of a completion are taken one after the other, whatever their order and number. -/
theorem State.runCycleParts_eq (order : List CompletionPart) (whole hrdy : Bool) (s : State) :
    ∃ ps, s.runCycleParts order whole hrdy = s.takeParts hrdy ps := by
  simp only [State.runCycleParts, ← State.takeParts_append]
  repeat' split
  all_goals exact ⟨_, rfl⟩

theorem State.runEpochParts_eq (order : List CompletionPart) (whole hrdy : Bool) (s : State) :
    ∃ ps, s.runEpochParts order whole hrdy = s.takeParts hrdy ps := by
  simp only [State.runEpochParts, ← State.takeParts_append]
  split
  all_goals exact ⟨_, rfl⟩

theorem effect_serve (s : State) (k : RequestKind) (tag : Byte) (p : List Byte) (hrdy : Bool) :
    Effect s (k.command tag p hrdy) (s.serve k (k.owner p) tag p hrdy) := by
  rcases s.serve_cases k tag p hrdy with e | ⟨h, e⟩ | ⟨hs, x, a, hx, hlink, e⟩ <;> rw [e]
  · exact .stays _
  · exact .dropped _ h
  · exact .served k tag p hrdy x a hs hx hlink

/-- What becomes of a complete and valid frame in any state (R1, R156, R157). -/
theorem State.entry_cases (s : State) (kind tag : Byte) (p : List Byte) :
    s.entry kind tag p = .ignored ∨ (s.link.service ≠ none ∧ s.entry kind tag p = .dropped) ∨
      (s.takesRequest ∧ s.entry kind tag p = .taken) := by
  cases hphase : s.time.phase with
  | starting => exact .inl (by simp [State.entry, State.isRunning, hphase])
  | running =>
    cases hservice : s.link.service with
    | none => exact .inr (.inr ⟨⟨hphase, by simp [hservice]⟩, s.entry_taken _ _ _ ⟨hphase, hservice⟩⟩)
    | some r =>
      rcases eq_or_ne r { kind := kind, tag := tag, payload := p, stage := .entered } with hr | hr
      · exact .inr (.inr ⟨⟨hphase, by simp [hservice, hr]⟩,
          by simp [State.entry, s.isRunning_iff.mpr hphase, hservice, hr]⟩)
      · exact .inr (.inl ⟨by simp, by simp [State.entry, s.isRunning_iff.mpr hphase, hservice, hr]⟩)

/-- A frame whose KIND names no request kind is answered at once (R158). -/
theorem State.enterService_answer (s : State) (kind tag : Byte) (p : List Byte) (status : ReplyStatus)
    (body : List Byte) (hrdy : Bool) : (s.enterService kind tag p).answer status body hrdy =
      s.unoccupied.replied kind tag p .answered status body hrdy :=
  State.answerTo_eq _ kind tag p .entered .answered status body hrdy rfl

theorem effect_unknownKind (s : State) (kind tag : Byte) (p : List Byte) (hrdy : Bool) {t : State}
    (h : exec (.requestUnknownKind kind tag p hrdy) s = .next t) :
    Effect s (.requestUnknownKind kind tag p hrdy) t := by
  simp only [exec, execRequestUnknownKind, Host.Outcome.next.injEq] at h
  subst h
  split
  · exact .stays _
  · rcases s.entry_cases kind tag p with e | ⟨hs, e⟩ | ⟨hs, e⟩ <;> simp only [e]
    · exact .stays _
    · exact .dropped _ hs
    · rw [State.enterService_answer]
      exact .unknownKind kind tag p hrdy hs

/-- What a command can do: a completion takes parts from the state in which it begins, and every other command has one
effect. -/
theorem exec_cases {c : Instr} {s t : State} (h : exec c s = .next t) :
    Effect s c t ∨ ∃ x hrdy ps, Begins s c x ∧ t = x.takeParts hrdy ps := by
  cases c with
  | requestUnknownKind kind tag p hrdy => exact .inl (effect_unknownKind s kind tag p hrdy h)
  | powerOnReset rate fnom =>
    cases h
    exact .inl (.reset rate fnom)
  | startingEnd =>
    cases h
    split
    · next hstart => exact .inl (.started hstart.1)
    · exact .inl (.stays _)
  | zrefRisingCrossing =>
    cases h
    split
    · exact .inl .crossed
    · exact .inl (.stays _)
  | missingCrossingExpiry =>
    cases h
    split
    · exact .inl .expired
    · exact .inl (.stays _)
  | sampleSlot =>
    cases h
    left
    split
    · next hc =>
      split
      · exact .slotFell _ hc
      · exact .stays _
    · exact .stays _
  | conversionComplete v =>
    cases h
    left
    split
    · next hc =>
      split
      · dsimp only
        split
        · exact .converted v _ hc _
        · exact .summed v _ hc
      · exact .stays _
    · exact .stays _
  | cycleCompletion order whole hrdy =>
    cases h
    split
    · next hdue =>
      obtain ⟨ps, e⟩ := s.deliver.runCycleParts_eq order whole hrdy
      simp only [State.completionDue, Bool.and_eq_true, List.isEmpty_iff] at hdue
      cases hc : s.scanner.cycle with
      | none => simp [hc] at hdue
      | some c =>
        refine .inr ⟨_, hrdy, ps, .delivered order whole hrdy c hc hdue.1.1.2, ?_⟩
        rw [e, State.deliver, hc]
    · split
      · next hflight =>
        obtain ⟨ps, e⟩ := s.runCycleParts_eq order whole hrdy
        simp only [State.cycleInFlight, Bool.and_eq_true, Bool.not_eq_true', List.contains_eq_mem,
          decide_eq_false_iff_not] at hflight
        exact .inr ⟨_, hrdy, ps, .cycleGoesOn order whole hrdy hflight.2, e⟩
      · exact .inl (.stays _)
  | epochCompletion order whole hrdy =>
    cases h
    split
    · next hflight =>
      obtain ⟨ps, e⟩ := s.runEpochParts_eq order whole hrdy
      simp only [State.epochInFlight, Bool.and_eq_true, List.contains_eq_mem, decide_eq_true_eq] at hflight
      exact .inr ⟨_, hrdy, ps, .epochGoesOn order whole hrdy hflight.2, e⟩
    · next hflight =>
      split
      · next hdue =>
        obtain ⟨ps, e⟩ := s.raiseEpoch.runEpochParts_eq order whole hrdy
        exact .inr ⟨_, hrdy, ps, .raised order whole hrdy (by simp_all [State.epochInFlight]), e⟩
      · exact .inl (.stays _)
  | beatExpiry ackb =>
    cases h
    split
    · exact .inl (.beat ackb)
    · exact .inl (.stays _)
  | byteTaken b stopHigh startedEarly =>
    cases h
    left
    split
    · dsimp only
      split
      · exact .framed _ _ _
      · exact .received _ _
    · exact .stays _
  | interByteExpiry =>
    cases h
    split
    · exact .inl (.received _ _)
    · exact .inl (.stays _)
  | frameDropped =>
    cases h
    split
    · next hs => exact .inl (.dropped _ (by simp_all [Option.isSome_iff_ne_none]))
    · exact .inl (.stays _)
  | hrdyAsserted =>
    cases h
    left
    split
    · next r hr => exact .replyStarted r hr
    all_goals exact .stays _
  | replySent =>
    cases h
    split
    · next hover => exact .inl (.replyEnded (by simp_all))
    · exact .inl (.stays _)
  | tonePeriod =>
    cases h
    exact .inl .toneEdge
  | status tag p hrdy => cases h; exact .inl (effect_serve s .status tag p hrdy)
  | readTracker tag p hrdy => cases h; exact .inl (effect_serve s .readTracker tag p hrdy)
  | readChannel tag p hrdy => cases h; exact .inl (effect_serve s .readChannel tag p hrdy)
  | readTransformer tag p hrdy => cases h; exact .inl (effect_serve s .readTransformer tag p hrdy)
  | fetchNotice tag p hrdy => cases h; exact .inl (effect_serve s .fetchNotice tag p hrdy)
  | setGeneral tag p hrdy => cases h; exact .inl (effect_serve s .setGeneral tag p hrdy)
  | setChannel tag p hrdy => cases h; exact .inl (effect_serve s .setChannel tag p hrdy)
  | setTransformer tag p hrdy => cases h; exact .inl (effect_serve s .setTransformer tag p hrdy)
  | setCurve tag p hrdy => cases h; exact .inl (effect_serve s .setCurve tag p hrdy)
  | setMonitors tag p hrdy => cases h; exact .inl (effect_serve s .setMonitors tag p hrdy)
  | setContact tag p hrdy => cases h; exact .inl (effect_serve s .setContact tag p hrdy)
  | setAnnunciator tag p hrdy => cases h; exact .inl (effect_serve s .setAnnunciator tag p hrdy)
  | readSettings tag p hrdy => cases h; exact .inl (effect_serve s .readSettings tag p hrdy)
  | commit tag p hrdy => cases h; exact .inl (effect_serve s .commit tag p hrdy)
  | discard tag p hrdy => cases h; exact .inl (effect_serve s .discard tag p hrdy)
  | acknowledge tag p hrdy => cases h; exact .inl (effect_serve s .acknowledge tag p hrdy)
  | silence tag p hrdy => cases h; exact .inl (effect_serve s .silence tag p hrdy)
  | clearExposure tag p hrdy => cases h; exact .inl (effect_serve s .clearExposure tag p hrdy)
  | presetThermal tag p hrdy => cases h; exact .inl (effect_serve s .presetThermal tag p hrdy)
  | selfCheck tag p hrdy => cases h; exact .inl (effect_serve s .selfCheck tag p hrdy)
  | captureTrigger tag p hrdy => cases h; exact .inl (effect_serve s .captureTrigger tag p hrdy)
  | captureHold tag p hrdy => cases h; exact .inl (effect_serve s .captureHold tag p hrdy)
  | captureRelease tag p hrdy => cases h; exact .inl (effect_serve s .captureRelease tag p hrdy)
  | captureRead tag p hrdy => cases h; exact .inl (effect_serve s .captureRead tag p hrdy)
  | captureInfo tag p hrdy => cases h; exact .inl (effect_serve s .captureInfo tag p hrdy)
  | restart tag p hrdy => cases h; exact .inl (effect_serve s .restart tag p hrdy)

/-! ## What the parts of a completion keep -/

/-- `s` with part `p` waiting no more, as its block takes it. -/
def State.without (s : State) (p : CompletionPart) : State :=
  s.setFlight { s.flight with parts := s.flight.parts.filter (· ≠ p) }

section
variable (s : State) (p : CompletionPart)
@[simp] theorem State.without_pending : (s.without p).pending = s.pending := rfl
@[simp] theorem State.without_time : (s.without p).time = s.time := rfl
@[simp] theorem State.without_tracker : (s.without p).tracker = s.tracker := rfl
@[simp] theorem State.without_scanner : (s.without p).scanner = s.scanner := rfl
@[simp] theorem State.without_cond : (s.without p).cond = s.cond := rfl
@[simp] theorem State.without_slots : (s.without p).slots = s.slots := rfl
@[simp] theorem State.without_ann : (s.without p).ann = s.ann := rfl
@[simp] theorem State.without_capture : (s.without p).capture = s.capture := rfl
@[simp] theorem State.without_store : (s.without p).store = s.store := rfl
@[simp] theorem State.without_link : (s.without p).link = s.link := rfl
@[simp] theorem State.without_notices : (s.without p).notices = s.notices := rfl
@[simp] theorem State.without_applied : (s.without p).applied = s.applied := rfl
@[simp] theorem State.without_isDefined (u : Fin 8) : (s.without p).isDefined u = s.isDefined u := rfl
@[simp] theorem State.without_flight :
    (s.without p).flight = { s.flight with parts := s.flight.parts.filter (· ≠ p) } := rfl

end

/-- A condition that every part keeps, taken when it waits and may be taken, is kept by a completion. -/
theorem State.takeParts_keeps {P : State → Prop} {hrdy : Bool}
    (hpart : ∀ (x : State) (p : CompletionPart), P x → waitsAs p ∈ x.flight.parts →
      (∀ q ∈ mustFollow p, q ∉ x.flight.parts) →
      P ((x.without p).runPart hrdy p))
    (ps : List CompletionPart) : ∀ s : State, P s → P (s.takeParts hrdy ps) := by
  induction ps with
  | nil => exact fun _ h => h
  | cons p ps ih =>
    intro s h
    refine ih _ ?_
    unfold State.takePart
    split
    · next hp => exact hpart s p h hp.1 hp.2
    · exact h

/-- A step runs the command at the front of the queue, or is one tick. -/
theorem step_cases {s t : State} (h : step s = .next t) :
    t = s.tick ∨ ∃ c rest, exec c { s with pending := rest } = .next t := by
  unfold step at h
  split at h
  · cases h
    exact .inl rfl
  · exact .inr ⟨_, _, h⟩

/-- A condition that does not read the queue is kept by every step if a tick, every effect, the beginning of every
completion and every part keep it. -/
theorem step_keeps {P : State → Prop} (hqueue : ∀ (s : State) (q : List Instr), P s → P { s with pending := q })
    (htick : ∀ s : State, P s → P s.tick) (heffect : ∀ (s : State) (c : Instr) (t : State), P s → Effect s c t → P t)
    (hbegins : ∀ (s : State) (c : Instr) (x : State), P s → Begins s c x → P x)
    (hpart : ∀ (hrdy : Bool) (x : State) (p : CompletionPart), P x → waitsAs p ∈ x.flight.parts →
      (∀ q ∈ mustFollow p, q ∉ x.flight.parts) →
      P ((x.without p).runPart hrdy p))
    {s t : State} (hs : P s) (h : step s = .next t) : P t := by
  rcases step_cases h with rfl | ⟨c, rest, h⟩
  · exact htick s hs
  · rcases exec_cases h with h | ⟨x, hrdy, ps, hx, rfl⟩
    · exact heffect _ c t (hqueue s rest hs) h
    · exact State.takeParts_keeps (hpart hrdy) ps x (hbegins _ c x (hqueue s rest hs) hx)

end Sys2Proof.Machine

/-! The blocks that the apply of a sealed set and the parts of a completion leave alone (R18, R25, R145). -/

namespace Sys2Proof.Machine

/-! ## The apply of a sealed set (R145, R146) -/

/-- Between `s` and `t` nothing has moved but the slots and the Annunciator. -/
def State.movesPanel (s t : State) : Prop := ∃ slots ann, t = { s with slots := slots, ann := ann }

theorem State.movesPanel_refl (s : State) : s.movesPanel s := ⟨_, _, rfl⟩

theorem State.movesPanel.trans {s t u : State} (h : s.movesPanel t) (h' : t.movesPanel u) : s.movesPanel u := by
  obtain ⟨_, _, rfl⟩ := h
  obtain ⟨_, _, rfl⟩ := h'
  exact ⟨_, _, rfl⟩

theorem State.movesPanel_reformPattern (s before : State) : s.movesPanel (s.reformPattern before) := by
  rcases State.reformPattern_cases s before with e | e <;> rw [e]
  · exact s.movesPanel_refl
  · exact ⟨_, _, rfl⟩

theorem State.movesPanel_reformTone (s : State) : s.movesPanel s.reformTone := by
  obtain ⟨_, e⟩ := s.reformTone_eq
  rw [e]
  exact ⟨_, _, rfl⟩

theorem State.movesPanel_putSignal (u : Fin 8) (r : Signal × Bool) (s : State) : s.movesPanel (s.putSignal u r) := by
  unfold State.putSignal
  dsimp only
  split <;> exact ⟨_, _, rfl⟩

theorem State.movesPanel_reevaluate (a : Level) (s : State) (u : Fin 8) : s.movesPanel (s.reevaluate a u) := by
  unfold State.reevaluate
  split
  · exact (State.movesPanel_putSignal ..).trans (State.movesPanel_reformPattern ..)
  · exact s.movesPanel_refl

theorem State.movesPanel_reevaluateAll (a : Level) (us : List (Fin 8)) : ∀ s : State,
    s.movesPanel (us.foldl (State.reevaluate a) s) := by
  induction us with
  | nil => exact State.movesPanel_refl
  | cons u us ih => exact fun s => (s.movesPanel_reevaluate a u).trans (ih _)

theorem State.movesPanel_applyAnnunciateAt (old new : Settings) (s : State) :
    s.movesPanel (s.applyAnnunciateAt old new) := by
  unfold State.applyAnnunciateAt
  split
  · exact s.movesPanel_refl
  · exact State.movesPanel_reevaluateAll ..

theorem State.movesPanel_applyAnnunciator (old new : Settings) (s : State) :
    s.movesPanel (s.applyAnnunciator old new) := by
  unfold State.applyAnnunciator
  split
  · exact s.movesPanel_refl
  · exact ⟨_, _, rfl⟩

/-- The state in which the sealed set has become the applied one, and the channels have been treated by it
(R32, R145). -/
def State.adopted (s : State) : State :=
  (s.setStore { applied := s.store.pending, pending := s.store.pending, isSealed := false }).applyChannels
    s.store.applied s.store.pending

/-- The slots and the Annunciator once they have been treated by the sealed set (R48 to R54, R95, R112). -/
def State.repanelled (s : State) : State :=
  (((s.adopted.applySlots s.store.applied s.store.pending).applyAnnunciateAt s.store.applied
    s.store.pending).applyAnnunciator s.store.applied s.store.pending).reformTone

theorem State.applySettings_eq (s : State) : s.applySettings = s.repanelled.notify .settingsApplied := rfl

theorem State.movesPanel_repanelled (s : State) : s.adopted.movesPanel s.repanelled := by
  have hslots : s.adopted.movesPanel (s.adopted.applySlots s.store.applied s.store.pending) :=
    State.movesPanel.trans ⟨_, _, rfl⟩ (State.movesPanel_reformPattern _ s.adopted)
  exact ((hslots.trans (State.movesPanel_applyAnnunciateAt ..)).trans (State.movesPanel_applyAnnunciator ..)).trans
    (State.movesPanel_reformTone _)

/-- What an apply can change: the channel records, the slots, the Annunciator, the Store and the notices. -/
theorem State.applySettings_frame (s : State) : ∃ channels slots ann, s.applySettings = { s with
    cond := { s.cond with channels := channels }, slots := slots, ann := ann
    store := { applied := s.store.pending, pending := s.store.pending, isSealed := false }
    notices := s.notices.arrive { epoch := s.cond.epochNumber, body := .settingsApplied } } := by
  obtain ⟨slots, ann, e⟩ := s.movesPanel_repanelled
  rw [State.applySettings_eq, e]
  exact ⟨_, slots, ann, rfl⟩

/-- What the Store's taking of an epoch completion can change. -/
theorem State.takeEpoch_frame (s : State) : ∃ channels slots ann store notices, s.takeEpoch = { s with
    cond := { s.cond with channels := channels }, slots := slots, ann := ann, store := store, notices := notices } := by
  unfold State.takeEpoch
  split
  · obtain ⟨_, _, _, e⟩ := s.applySettings_frame
    exact ⟨_, _, _, _, _, e⟩
  · exact ⟨_, _, _, _, _, rfl⟩

section
variable (s : State)

@[simp] theorem State.takeEpoch_pending : s.takeEpoch.pending = s.pending := by
  obtain ⟨_, _, _, _, _, e⟩ := s.takeEpoch_frame; rw [e]
@[simp] theorem State.takeEpoch_time : s.takeEpoch.time = s.time := by
  obtain ⟨_, _, _, _, _, e⟩ := s.takeEpoch_frame; rw [e]
@[simp] theorem State.takeEpoch_tracker : s.takeEpoch.tracker = s.tracker := by
  obtain ⟨_, _, _, _, _, e⟩ := s.takeEpoch_frame; rw [e]
@[simp] theorem State.takeEpoch_scanner : s.takeEpoch.scanner = s.scanner := by
  obtain ⟨_, _, _, _, _, e⟩ := s.takeEpoch_frame; rw [e]
@[simp] theorem State.takeEpoch_capture : s.takeEpoch.capture = s.capture := by
  obtain ⟨_, _, _, _, _, e⟩ := s.takeEpoch_frame; rw [e]
@[simp] theorem State.takeEpoch_link : s.takeEpoch.link = s.link := by
  obtain ⟨_, _, _, _, _, e⟩ := s.takeEpoch_frame; rw [e]
@[simp] theorem State.takeEpoch_flight : s.takeEpoch.flight = s.flight := by
  obtain ⟨_, _, _, _, _, e⟩ := s.takeEpoch_frame; rw [e]

end

/-! ## One trigger of several (R31, R87) -/

section
variable (hrdy : Bool) (s : State)

/-- What Capture Memory's taking of the next STEP trigger can do. -/
theorem State.takeNextStep_cases : s.takeNextStep hrdy = s ∨ ∃ tr rest, s.flight.steps = tr :: rest ∧
    s.takeNextStep hrdy = (s.setFlight { s.flight with steps := rest }).takeTriggers hrdy [tr] := by
  unfold State.takeNextStep
  split
  · exact .inl rfl
  · next tr rest e => exact .inr ⟨tr, rest, e, rfl⟩

/-- What Capture Memory's taking of the next LEVEL trigger can do. -/
theorem State.takeNextLevel_cases : s.takeNextLevel hrdy = s ∨ ∃ tr rest, ascending s.flight.levels = tr :: rest ∧
    s.takeNextLevel hrdy = (s.setFlight { s.flight with levels := rest }).takeTriggers hrdy [tr] := by
  unfold State.takeNextLevel
  split
  · exact .inl rfl
  · next tr rest e => exact .inr ⟨tr, rest, e, rfl⟩

@[simp] theorem State.takeNextStep_time : (s.takeNextStep hrdy).time = s.time := by
  rcases s.takeNextStep_cases hrdy with e | ⟨_, _, _, e⟩ <;> rw [e]; simp
@[simp] theorem State.takeNextStep_tracker : (s.takeNextStep hrdy).tracker = s.tracker := by
  rcases s.takeNextStep_cases hrdy with e | ⟨_, _, _, e⟩ <;> rw [e]; simp
@[simp] theorem State.takeNextStep_scanner : (s.takeNextStep hrdy).scanner = s.scanner := by
  rcases s.takeNextStep_cases hrdy with e | ⟨_, _, _, e⟩ <;> rw [e]; simp
@[simp] theorem State.takeNextStep_slots : (s.takeNextStep hrdy).slots = s.slots := by
  rcases s.takeNextStep_cases hrdy with e | ⟨_, _, _, e⟩ <;> rw [e]; simp
@[simp] theorem State.takeNextStep_ann : (s.takeNextStep hrdy).ann = s.ann := by
  rcases s.takeNextStep_cases hrdy with e | ⟨_, _, _, e⟩ <;> rw [e]; simp
@[simp] theorem State.takeNextStep_given : (s.takeNextStep hrdy).flight.given = s.flight.given := by
  rcases s.takeNextStep_cases hrdy with e | ⟨_, _, _, e⟩ <;> rw [e]; simp
@[simp] theorem State.takeNextStep_changes : (s.takeNextStep hrdy).flight.changes = s.flight.changes := by
  rcases s.takeNextStep_cases hrdy with e | ⟨_, _, _, e⟩ <;> rw [e]; simp
@[simp] theorem State.takeNextLevel_time : (s.takeNextLevel hrdy).time = s.time := by
  rcases s.takeNextLevel_cases hrdy with e | ⟨_, _, _, e⟩ <;> rw [e]; simp
@[simp] theorem State.takeNextLevel_tracker : (s.takeNextLevel hrdy).tracker = s.tracker := by
  rcases s.takeNextLevel_cases hrdy with e | ⟨_, _, _, e⟩ <;> rw [e]; simp
@[simp] theorem State.takeNextLevel_scanner : (s.takeNextLevel hrdy).scanner = s.scanner := by
  rcases s.takeNextLevel_cases hrdy with e | ⟨_, _, _, e⟩ <;> rw [e]; simp
@[simp] theorem State.takeNextLevel_slots : (s.takeNextLevel hrdy).slots = s.slots := by
  rcases s.takeNextLevel_cases hrdy with e | ⟨_, _, _, e⟩ <;> rw [e]; simp
@[simp] theorem State.takeNextLevel_ann : (s.takeNextLevel hrdy).ann = s.ann := by
  rcases s.takeNextLevel_cases hrdy with e | ⟨_, _, _, e⟩ <;> rw [e]; simp
@[simp] theorem State.takeNextLevel_given : (s.takeNextLevel hrdy).flight.given = s.flight.given := by
  rcases s.takeNextLevel_cases hrdy with e | ⟨_, _, _, e⟩ <;> rw [e]; simp
@[simp] theorem State.takeNextLevel_changes : (s.takeNextLevel hrdy).flight.changes = s.flight.changes := by
  rcases s.takeNextLevel_cases hrdy with e | ⟨_, _, _, e⟩ <;> rw [e]; simp

end

/-! ## Which part reaches which block -/

section
variable (hrdy : Bool) (p : CompletionPart) (s : State)

@[simp] theorem State.runPart_time : (s.runPart hrdy p).time = s.time := by cases p <;> simp [State.runPart]
@[simp] theorem State.runPart_pending : (s.runPart hrdy p).pending = s.pending := by
  cases p with
  | nextStep => rcases s.takeNextStep_cases hrdy with e | ⟨_, _, _, e⟩ <;> simp [State.runPart, e]
  | nextLevel => rcases s.takeNextLevel_cases hrdy with e | ⟨_, _, _, e⟩ <;> simp [State.runPart, e]
  | _ => simp [State.runPart]

end

/-! ## Which command reaches which block -/

/-- Two states that agree in every block are equal. -/
theorem State.ext_blocks {s t : State} (hpending : s.pending = t.pending) (htime : s.time = t.time)
    (htracker : s.tracker = t.tracker) (hscanner : s.scanner = t.scanner) (hcond : s.cond = t.cond)
    (hslots : s.slots = t.slots) (hann : s.ann = t.ann) (hcapture : s.capture = t.capture) (hstore : s.store = t.store)
    (hlink : s.link = t.link) (hnotices : s.notices = t.notices) (hflight : s.flight = t.flight) : s = t := by
  cases s
  cases t
  simp_all

/-- An acknowledgement reaches the slots, the Annunciator and the notices (R96 to R98). -/
theorem State.acknowledgeSlots_frame (src : AckSource) (sel : Fin 8 → Bool) (s : State) : ∃ slots ann notices,
    s.acknowledgeSlots src sel = { s with slots := slots, ann := ann, notices := notices } :=
  ⟨(s.acknowledgeSlots src sel).slots, (s.acknowledgeSlots src sel).ann, (s.acknowledgeSlots src sel).notices,
    by apply State.ext_blocks <;> simp⟩

/-- A beat reaches the slots, the Annunciator and the notices (R100, R101). -/
theorem State.beat_frame (ackb : Bool) (s : State) : ∃ slots ann notices,
    s.beat ackb = { s with slots := slots, ann := ann, notices := notices } := by
  have hsampled : ∃ slots ann notices,
      s.sampleAckb ackb = { s with slots := slots, ann := ann, notices := notices } := by
    unfold State.sampleAckb
    dsimp only
    split
    · obtain ⟨_, _, _, e⟩ := State.acknowledgeSlots_frame .button (fun t => s.isDefined t)
        (s.setAnn { s.ann with debounce := (s.ann.debounce.sample ackb).1 })
      exact ⟨_, _, _, e⟩
    · exact ⟨_, _, _, rfl⟩
  obtain ⟨_, _, _, e⟩ := hsampled
  unfold State.beat
  obtain ⟨_, _, e'⟩ := State.movesPanel_reformTone _
  exact ⟨_, _, _, e'.trans (by rw [e]; rfl)⟩

theorem State.handFrame_eq (bs : List Byte) (s : State) : ∃ l, s.handFrame bs = s.setLink l := by
  unfold State.handFrame
  split <;> exact ⟨_, rfl⟩

/-- The end of a reply reaches the link and, for a RESTART, the notices, the Store and Capture Memory (R156, R162). -/
theorem State.endReply_frame (s : State) : ∃ link notices store capture,
    s.endReply = { s with link := link, notices := notices, store := store, capture := capture } := by
  unfold State.endReply
  dsimp only
  split <;> exact ⟨_, _, _, _, rfl⟩

section
variable {s x : State} {k : RequestKind} {a : Answer}

/-- No request reaches the timebase, the tracker, the scanner or what is between blocks. -/
theorem Taken.frame (h : Taken s k x a) :
    x.time = s.time ∧ x.tracker = s.tracker ∧ x.scanner = s.scanner ∧ x.flight = s.flight ∧ x.pending = s.pending ∧
      x.store.applied = s.store.applied := by
  cases h <;> simp [State.modifyThermal, Store.revert]

end

/-! ## The straps and RUNNING -/

theorem Effect.time {c : Instr} {s t : State} (h : Effect s c t) : t.time = s.time ∨
    (c = .startingEnd ∧ t.time = { s.time with phase := .running }) ∨ ∃ rate fnom, c = .powerOnReset rate fnom := by
  cases h with
  | reset rate fnom => exact .inr (.inr ⟨rate, fnom, rfl⟩)
  | started _ => exact .inr (.inl ⟨rfl, by simp⟩)
  | beat ackb => obtain ⟨_, _, _, e⟩ := s.beat_frame ackb; exact .inl (by rw [e])
  | framed _ r bs => obtain ⟨_, e⟩ := State.handFrame_eq bs _; exact .inl (by rw [e]; rfl)
  | replyEnded _ => obtain ⟨_, _, _, _, e⟩ := s.endReply_frame; exact .inl (by rw [e])
  | served k tag p hrdy x a _ hx _ =>
    obtain ⟨htime, -⟩ := hx.frame
    exact .inl ((State.responded_time ..).trans htime)
  | crossed => exact .inl (by simp)
  | expired => exact .inl (by simp)
  | _ => exact .inl rfl

theorem Begins.time {c : Instr} {s x : State} (h : Begins s c x) : x.time = s.time := by cases h <;> rfl

/-- Settles O48: of the commands but a power-on reset only the end of STARTING reaches the timebase, and it leaves the part
RUNNING with the straps as sampled; no part of a completion does. -/
theorem strapsAndRunningHoldUntilReset : Obligations.StrapsAndRunningHoldUntilReset := by
  unfold Obligations.StrapsAndRunningHoldUntilReset
  intro c s t h hc
  have hstands (e : t.time = s.time) :
      t.time.rate = s.time.rate ∧ t.time.fnom = s.time.fnom ∧ (s.time.phase = .running → t.time.phase = .running) := by
    rw [e]
    exact ⟨rfl, rfl, id⟩
  rcases exec_cases h with h | ⟨x, hrdy, ps, hx, rfl⟩
  · rcases h.time with e | ⟨-, e⟩ | ⟨rate, fnom, e⟩
    · exact hstands e
    · rw [e]
      exact ⟨rfl, rfl, fun _ => rfl⟩
    · exact absurd e (hc rate fnom)
  · refine hstands (State.takeParts_keeps (P := fun u => u.time = s.time) (fun u p hu _ _ => ?_) ps x hx.time)
    rw [State.runPart_time]
    exact hu

end Sys2Proof.Machine

/-! The Notice Queue along a step (chapter 10 of the manual): what is told between two states, and the queue's bounds. -/

namespace Sys2Proof.Machine

/-! ## What is told (R165) -/

/-- Between `s` and `t` some notices have arrived, and nothing else has befallen the queue. -/
def State.tells (s t : State) : Prop := ∃ ns : List Notice, t.notices = ns.foldl NoticeQueue.arrive s.notices

theorem State.tells_of_eq {s t : State} (h : t.notices = s.notices) : s.tells t := ⟨[], h⟩

theorem State.tells.trans {s t u : State} (h : s.tells t) (h' : t.tells u) : s.tells u := by
  obtain ⟨ns, e⟩ := h
  obtain ⟨ms, e'⟩ := h'
  exact ⟨ns ++ ms, by rw [List.foldl_append, ← e, e']⟩

theorem State.tells_notify (s : State) (b : NoticeBody) : s.tells (s.notify b) := ⟨[_], rfl⟩

theorem State.tells_notifyAll (bs : List NoticeBody) : ∀ s : State, s.tells (s.notifyAll bs) := by
  induction bs with
  | nil => exact fun s => State.tells_of_eq rfl
  | cons b bs ih => exact fun s => (s.tells_notify b).trans (ih _)

/-- A condition on the queue that arrivals keep holds after whatever has been told. -/
theorem State.tells.keeps {Q : NoticeQueue → Prop} (harrive : ∀ q n, Q q → Q (q.arrive n)) {s t : State}
    (h : s.tells t) (hs : Q s.notices) : Q t.notices := by
  obtain ⟨ns, e⟩ := h
  rw [e]
  clear e
  induction ns generalizing s with
  | nil => exact hs
  | cons n ns ih => exact ih (s := s.setNotices (s.notices.arrive n)) (harrive _ n hs)

/-- Notices are only appended (R165). -/
theorem State.tells.front {s t : State} (h : s.tells t) : s.notices.queue <+: t.notices.queue :=
  h.keeps (Q := fun q => s.notices.queue <+: q.queue) (fun q n hq => hq.trans (q.front_arrive n)) ⟨[], by simp⟩

/-- What has been told stays told (R165). -/
theorem State.told.tells {s t u : State} {b : NoticeBody} (h : s.told t b) (htells : t.tells u) : s.told u b :=
  htells.keeps (Q := fun q => _ ∈ q.queue.drop s.notices.queue.length ∨ (32 ≤ q.queue.length ∧ q.lost = true))
    (fun q n hq => q.arrive_mono n _ _ hq) h

/-- A notice of the present epoch is told as it is queued. -/
theorem State.told_notify_self (s : State) (b : NoticeBody) : s.told (s.notify b) b := s.notices.arrive_mem _

section
variable (s : State)

theorem State.tells_takeEntry (c : Cycle) (x : ChannelSums) : s.tells (s.takeEntry c x) :=
  State.tells_notifyAll _ (s.setCond _)

theorem State.tells_takeEntries (c : Cycle) (xs : List ChannelSums) : ∀ s : State,
    s.tells (xs.foldl (State.takeEntry c) s) := by
  induction xs with
  | nil => exact fun s => State.tells_of_eq rfl
  | cons x xs ih => exact fun s => (s.tells_takeEntry c x).trans (ih _)

theorem State.tells_takeVerdict (c : Cycle) : s.tells (s.takeVerdict c) := by
  cases hc : c.selfCheck with
  | false => exact State.tells_of_eq (by simp [State.takeVerdict, hc])
  | true =>
    have e := State.takeVerdict_notices (s := s) hc
    split at e
    · exact ⟨[_], e⟩
    · exact State.tells_of_eq e

theorem State.tells_takeRecord : s.tells s.takeRecord := by
  unfold State.takeRecord
  split
  · exact State.tells_of_eq rfl
  · next c _ =>
    have hentries := State.tells_takeEntries c s.flight.entries (s.setFlight { s.flight with entries := [] })
    exact hentries.trans (State.tells_takeVerdict _ c)

theorem State.tells_takeNextEntry : s.tells s.takeNextEntry := by
  unfold State.takeNextEntry
  split
  · exact State.tells_takeEntry (s.setFlight _) _ _
  all_goals exact State.tells_of_eq rfl

theorem State.tells_takeTrigger (hrdy : Bool) (tr : Trigger) : s.tells (s.takeTrigger hrdy tr) := by
  rcases s.takeTrigger_cases hrdy tr with ⟨-, -, e⟩ | ⟨-, -, e⟩ | ⟨-, e⟩ | ⟨-, -, e⟩ | ⟨-, -, e⟩ <;> rw [e]
  · exact State.tells_of_eq rfl
  · exact State.tells_of_eq (by simp)
  · exact State.tells_notify (s.setCapture _) _
  · exact State.tells_of_eq rfl
  · exact State.tells_notify (s.setCapture _) _

theorem State.tells_takeTriggers (hrdy : Bool) (trs : List Trigger) : ∀ s : State,
    s.tells (s.takeTriggers hrdy trs) := by
  induction trs with
  | nil => exact fun s => State.tells_of_eq rfl
  | cons tr trs ih => exact fun s => (s.tells_takeTrigger hrdy tr).trans (ih _)

theorem State.tells_takeFrame (hrdy : Bool) : s.tells (s.takeFrame hrdy) := by
  unfold State.takeFrame
  dsimp only
  have h := State.tells_notifyAll (frozenNotice s.capture s.capture.takeFrame) (s.setCapture s.capture.takeFrame)
  split
  · exact State.tells.trans h (State.tells_of_eq (by simp))
  · exact h

theorem State.tells_moveTracker (r : Tracker × List NoticeBody) : s.tells (s.moveTracker r) :=
  State.tells_notifyAll _ (s.setTracker _)

theorem State.tells_stepThermal (u : Fin 8) : s.tells (s.stepThermal u) := by
  unfold State.stepThermal
  dsimp only
  repeat' split
  · exact State.tells_notify ((s.setSlots _).setFlight _) _
  all_goals exact State.tells_of_eq rfl

theorem State.tells_gradeOn (u : Fin 8) (h : Handed) : s.tells (s.gradeOn u h) := by
  rcases s.gradeOn_cases u h with ⟨-, e⟩ | ⟨-, e⟩ <;> rw [e]
  · exact State.tells_of_eq rfl
  · exact State.tells_notify (s.setSlots _) _

theorem State.tells_gradeSlot (u : Fin 8) : s.tells (s.gradeSlot u) := by
  unfold State.gradeSlot
  dsimp only
  repeat' split
  · exact State.tells_gradeOn (s.setFlight _) u _
  all_goals exact State.tells_of_eq rfl

theorem State.tells_takeEpoch : s.tells s.takeEpoch := by
  unfold State.takeEpoch
  split
  · obtain ⟨_, _, _, e⟩ := s.applySettings_frame
    rw [e]
    exact ⟨[_], rfl⟩
  · exact State.tells_of_eq rfl

/-- Every part of a completion does nothing to the queue but tell. -/
theorem State.tells_runPart (hrdy : Bool) (p : CompletionPart) : s.tells (s.runPart hrdy p) := by
  cases p with
  | entries => exact s.tells_takeRecord
  | nextEntry => exact s.tells_takeNextEntry
  | steps => exact State.tells_takeTriggers hrdy _ (s.setFlight _)
  | nextStep =>
    show s.tells (s.takeNextStep hrdy)
    rcases s.takeNextStep_cases hrdy with e | ⟨_, _, _, e⟩ <;> rw [e]
    · exact State.tells_of_eq rfl
    · exact State.tells_takeTriggers hrdy _ (s.setFlight _)
  | frame => exact s.tells_takeFrame hrdy
  | count => exact s.tells_moveTracker _
  | start => exact State.tells_of_eq s.startNext_notices
  | current u => exact State.tells_of_eq (s.formCurrent_notices u)
  | thermal u => exact s.tells_stepThermal u
  | grade u => exact s.tells_gradeSlot u
  | annunciate u => exact State.tells_of_eq (s.hearChange_notices u)
  | levels => exact State.tells_takeTriggers hrdy _ (s.setFlight _)
  | nextLevel =>
    show s.tells (s.takeNextLevel hrdy)
    rcases s.takeNextLevel_cases hrdy with e | ⟨_, _, _, e⟩ <;> rw [e]
    · exact State.tells_of_eq rfl
    · exact State.tells_takeTriggers hrdy _ (s.setFlight _)
  | settings => exact s.tells_takeEpoch

theorem State.tells_takeParts (hrdy : Bool) (ps : List CompletionPart) : s.tells (s.takeParts hrdy ps) :=
  State.takeParts_keeps (P := fun x => s.tells x)
    (fun x p hx _ _ => hx.trans (State.tells_runPart (x.without p) hrdy p)) ps s (State.tells_of_eq rfl)

theorem State.tells_acknowledgeSlots (src : AckSource) (sel : Fin 8 → Bool) : s.tells (s.acknowledgeSlots src sel) := by
  unfold State.acknowledgeSlots
  dsimp only
  split
  · refine ⟨[{ epoch := s.cond.epochNumber, body := .acknowledged src (s.ackSet sel) }], ?_⟩
    rw [State.reformHorn_notices]
    split <;> rfl
  · exact State.tells_of_eq rfl

theorem State.tells_beat (ackb : Bool) : s.tells (s.beat ackb) := by
  have hsampled : s.tells (s.sampleAckb ackb) := by
    have hsample : s.tells (s.setAnn { s.ann with debounce := (s.ann.debounce.sample ackb).1 }) := State.tells_of_eq rfl
    rw [State.sampleAckb]
    split
    · exact hsample.trans (State.tells_acknowledgeSlots _ .button _)
    · exact hsample
  have hbeat : (s.beat ackb).notices = (s.sampleAckb ackb).notices := by simp [State.beat]
  exact hsampled.trans (State.tells_of_eq hbeat)

end

/-! ## The queue's bounds (R165, R167) -/

/-- Settles O53: an arrival keeps the bounds, and what else befalls the queue is that FETCH NOTICE takes from its front
and that a power-on reset or a RESTART empties it. -/
theorem stepKeepsTheNoticeQueue : Obligations.StepKeepsTheNoticeQueue := by
  unfold Obligations.StepKeepsTheNoticeQueue
  refine ⟨fun q n => ⟨fun h => if_pos h, fun h => if_neg (by omega)⟩, fun s t hs => ?_⟩
  have told {s t : State} (hs : s.notices.sound) (h : s.tells t) : t.notices.sound :=
    h.keeps (fun q n => q.arrive_keeps n) hs
  have stands {s t : State} (hs : s.notices.sound) (h : t.notices = s.notices) : t.notices.sound := by rwa [h]
  refine step_keeps (P := fun x => x.notices.sound) (fun _ _ h => h) (fun s hs => ?_) (fun s c t hs h => ?_)
    (fun s c x hs h => ?_) (fun hrdy x p hx _ _ => told hx (State.tells_runPart (x.without p) hrdy p)) hs
  · unfold State.tick State.countTick
    split <;> split <;> exact hs
  · cases h with
    | reset rate fnom => exact ⟨Nat.zero_le _, fun h => nomatch h⟩
    | started _ => exact stands hs (by simp)
    | crossed => exact told hs (s.tells_moveTracker _)
    | expired => exact told hs (s.tells_moveTracker _)
    | beat ackb => exact told hs (s.tells_beat ackb)
    | framed _ r bs =>
      obtain ⟨_, e⟩ := State.handFrame_eq bs (s.setLink { s.link with receiver := r, byteTicks := 0 })
      exact stands hs (by rw [e]; rfl)
    | replyEnded _ =>
      unfold State.endReply
      dsimp only
      split
      · exact ⟨Nat.zero_le _, fun h => nomatch h⟩
      · exact hs
    | served k tag p hrdy x a _ hx _ =>
      rw [State.responded_notices]
      have hopen : s.unoccupied.notices.sound := hs
      cases hx with
      | fetched n _ =>
        refine ⟨?_, ?_⟩
        · have := hs.1
          simp [NoticeQueue.fetch]
          exact Nat.le_trans this (Nat.le_add_right ..)
        · simp [NoticeQueue.fetch]
      | acknowledged sel _ _ => exact told hopen (State.tells_acknowledgeSlots _ _ sel)
      | silenced => exact stands hopen (by simp)
      | revoked _ => exact told hopen (State.tells_notify (s.unoccupied.setCapture _) _)
      | _ => exact hs
    | _ => exact hs
  · cases h <;> exact hs

end Sys2Proof.Machine

/-! The Cycle Tracker and the Sample Scanner along a step (chapter 1 of the manual). -/

namespace Sys2Proof.Machine

/-! ## The tracker (R5 to R9) -/

section
variable {x : Tracker} (h : x.sound)
include h

theorem Tracker.sound_restarted (reference : Bool) (ticks : Nat) :
    ({ x with reference := reference, ticks := ticks } : Tracker).sound := h

theorem Tracker.takeGood_sound {p : Nat} (hp : goodPeriod p = true) : (x.takeGood p).1.sound := by
  obtain ⟨hperiod, hhold, hsearching, hlocked, hholdover, hfree⟩ := h
  have hrange : 14286 ≤ p ∧ p ≤ 25000 := by simpa [goodPeriod] using hp
  unfold Tracker.takeGood
  split
  · simp_all [Tracker.sound]
  all_goals
    split
    · simp_all [Tracker.sound]
    · simp_all [Tracker.sound]

theorem Tracker.takeBad_sound : x.takeBad.1.sound := by
  obtain ⟨hperiod, hhold, hsearching, hlocked, hholdover, hfree⟩ := h
  unfold Tracker.takeBad
  split <;> simp_all [Tracker.sound]

theorem Tracker.crossing_sound : x.crossing.1.sound := by
  unfold Tracker.crossing
  dsimp only
  split
  · split
    · next hgood => exact Tracker.takeGood_sound (x := { x with reference := true, ticks := 0 }) h hgood
    · exact Tracker.takeBad_sound (x := { x with reference := true, ticks := 0 }) h
  · exact h

theorem Tracker.expiry_sound : x.expiry.1.sound :=
  Tracker.takeBad_sound (x := { x with ticks := 0, reference := false }) h

theorem Tracker.countCompletion_sound : x.countCompletion.1.sound := by
  obtain ⟨hperiod, hhold, hsearching, hlocked, hholdover, hfree⟩ := h
  unfold Tracker.countCompletion
  split
  · split <;> simp_all [Tracker.sound]
  all_goals exact ⟨hperiod, hhold, hsearching, hlocked, hholdover, hfree⟩

/-- R11: the P_s that the tracker gives lies within its range. -/
theorem Tracker.samplingPeriod_range (f : Fnom) :
    14286 ≤ x.samplingPeriod f ∧ x.samplingPeriod f ≤ 25000 := by
  obtain ⟨hperiod, -⟩ := h
  have hnominal : 14286 ≤ nominalPeriod f ∧ nominalPeriod f ≤ 25000 := by cases f <;> decide
  unfold Tracker.samplingPeriod
  split
  · exact hnominal
  · exact hnominal
  all_goals
    cases hgood : x.pGood with
    | none => exact hnominal
    | some p => exact hperiod p hgood

end

/-! ## Which part reaches the tracker, the scanner and the start given (R8, R11, R18) -/

section
variable (hrdy : Bool) (p : CompletionPart) (s : State)

theorem State.runPart_tracker (hp : p ≠ .count) : (s.runPart hrdy p).tracker = s.tracker := by
  cases p with
  | count => exact absurd rfl hp
  | _ => simp [State.runPart]

theorem State.runPart_scanner (hp : p ≠ .start) : (s.runPart hrdy p).scanner = s.scanner := by
  cases p with
  | start => exact absurd rfl hp
  | _ => simp [State.runPart]

@[simp] theorem State.takeRecord_given : s.takeRecord.flight.given = s.flight.given := by
  unfold State.takeRecord
  split <;> simp

@[simp] theorem State.takeNextEntry_given : s.takeNextEntry.flight.given = s.flight.given := by
  unfold State.takeNextEntry
  split <;> simp

@[simp] theorem State.stepThermal_given (u : Fin 8) : (s.stepThermal u).flight.given = s.flight.given := by
  unfold State.stepThermal
  dsimp only
  repeat' split
  all_goals rfl

@[simp] theorem State.gradeSlot_given (u : Fin 8) : (s.gradeSlot u).flight.given = s.flight.given := by
  have hgrade (x : State) (h : Handed) : (x.gradeOn u h).flight.given = x.flight.given := by
    rcases x.gradeOn_cases u h with ⟨-, e⟩ | ⟨-, e⟩ <;> rw [e] <;> rfl
  unfold State.gradeSlot
  dsimp only
  repeat' split
  · exact hgrade _ _
  all_goals rfl

@[simp] theorem State.hearChange_given (u : Fin 8) : (s.hearChange u).flight.given = s.flight.given := by
  rcases s.hearChange_cases u with ⟨e, -⟩ | ⟨_, -, -, e⟩ <;> rw [e]
  · rfl
  · simp

theorem State.runPart_given (hcount : p ≠ .count) (hstart : p ≠ .start) :
    (s.runPart hrdy p).flight.given = s.flight.given := by
  cases p with
  | count => exact absurd rfl hcount
  | start => exact absurd rfl hstart
  | _ => simp [State.runPart]

end

theorem State.startCycle_scanner (number : Count32) (g : CycleStart) (s : State) : (s.startCycle number g).scanner =
    { cycleNumber := number
      cycle := some (.fresh number g.ps g.degraded s.applied.enabledChannels (s.cond.selfCheck == .scheduled)) } := by
  unfold State.startCycle
  dsimp only
  split <;> rfl

/-! ## Every step -/

/-- The tracker, the scanner and the start that is given are sound (R5 to R9, R11, R18). -/
def State.cycleSound (s : State) : Prop := s.tracker.sound ∧ s.scanner.sound ∧ s.flight.givenSound

theorem State.cycleSound.of_eq {s t : State} (h : s.cycleSound) (htracker : t.tracker = s.tracker)
    (hscanner : t.scanner = s.scanner) (hgiven : t.flight.given = s.flight.given) : t.cycleSound := by
  unfold State.cycleSound Flight.givenSound
  rw [htracker, hscanner, hgiven]
  exact h

theorem Scanner.sound_of_cycle {x : Scanner} (h : x.sound) {c d : Cycle} (hc : x.cycle = some c) (hps : d.ps = c.ps)
    (hnumber : d.number = c.number) : ({ x with cycle := some d } : Scanner).sound := by
  rintro _ ⟨⟩
  rw [hps, hnumber]
  exact h c hc

theorem Cycle.takeCode_frame (code : Code) (c : Cycle) :
    (c.takeCode code).ps = c.ps ∧ (c.takeCode code).number = c.number := by
  unfold Cycle.takeCode
  split <;> exact ⟨rfl, rfl⟩

theorem Scanner.sound_fresh {number : Count32} {ps : Nat} (h : 14286 ≤ ps ∧ ps ≤ 25000) (degraded : Bool)
    (chans : List (Fin 16)) (check : Bool) : ({ cycleNumber := number
                                                cycle := some (.fresh number ps degraded chans check) } : Scanner).sound := by
  rintro _ ⟨⟩
  exact ⟨h.1, h.2, rfl⟩

theorem State.tick_cycleSound {s : State} (h : s.cycleSound) : s.tick.cycleSound := by
  unfold State.tick
  split
  · split <;> exact h
  · split
    · exact h
    · obtain ⟨htracker, hscanner, hgiven⟩ := h
      refine ⟨htracker, fun c hc => ?_, hgiven⟩
      obtain ⟨d, hd, rfl⟩ := Option.map_eq_some_iff.mp hc
      exact hscanner d hd

theorem Effect.cycleSound {s t : State} {c : Instr} (hs : s.cycleSound) (h : Effect s c t) : t.cycleSound := by
  have ⟨htracker, hscanner, hgiven⟩ := hs
  cases h with
  | reset rate fnom =>
    exact ⟨(by decide : Tracker.powerOn.sound), fun _ hc => (nomatch hc), fun _ hg => (nomatch hg)⟩
  | started _ =>
    refine ⟨by simpa using htracker, ?_, by simpa using hgiven⟩
    rw [State.startCycle_scanner]
    exact Scanner.sound_fresh (Tracker.samplingPeriod_range htracker _) _ _ _
  | crossed => 
    exact ⟨by simpa [State.moveTracker] using Tracker.crossing_sound htracker, by simpa using hscanner, by simpa using hgiven⟩
  | expired => 
    exact ⟨by simpa [State.moveTracker] using Tracker.expiry_sound htracker, by simpa using hscanner, by simpa using hgiven⟩
  | slotFell c hc => exact ⟨htracker, Scanner.sound_of_cycle hscanner hc rfl rfl, hgiven⟩
  | converted v c hc i =>
    obtain ⟨hps, hnumber⟩ := c.takeCode_frame (adcCode v)
    exact ⟨htracker, Scanner.sound_of_cycle hscanner hc hps hnumber, hgiven⟩
  | summed v c hc =>
    obtain ⟨hps, hnumber⟩ := c.takeCode_frame (adcCode v)
    exact ⟨htracker, Scanner.sound_of_cycle hscanner hc hps hnumber, hgiven⟩
  | beat ackb => obtain ⟨_, _, _, e⟩ := s.beat_frame ackb; rw [e]; exact hs
  | framed _ r bs => obtain ⟨_, e⟩ := State.handFrame_eq bs _; rw [e]; exact hs
  | replyEnded _ => obtain ⟨_, _, _, _, e⟩ := s.endReply_frame; rw [e]; exact hs
  | served k tag p hrdy x a _ hx _ =>
    obtain ⟨-, htracker', hscanner', hflight', -⟩ := hx.frame
    exact hs.of_eq (by simpa using htracker') (by simpa using hscanner')
      (by simpa using congrArg Flight.given hflight')
  | _ => exact hs

theorem State.runPart_cycleSound {s : State} (h : s.cycleSound) (hrdy : Bool) (p : CompletionPart) :
    (s.runPart hrdy p).cycleSound := by
  have ⟨htracker, hscanner, hgiven⟩ := h
  rcases eq_or_ne p .count with rfl | hcount
  · show s.countCompletion.cycleSound
    rw [State.countCompletion_eq]
    refine ⟨by simpa [State.moveTracker] using Tracker.countCompletion_sound htracker, by simpa using hscanner, ?_⟩
    rintro _ ⟨⟩
    exact Tracker.samplingPeriod_range (Tracker.countCompletion_sound htracker) _
  · rcases eq_or_ne p .start with rfl | hstart
    · show s.startNext.cycleSound
      rcases s.startNext_cases with ⟨-, e⟩ | ⟨g, hg, hflight, e⟩
      · rw [e]
        exact h
      · refine ⟨by simpa using htracker, ?_, ?_⟩
        · rw [e]
          exact Scanner.sound_fresh (hgiven g hg) _ _ _
        · rw [hflight]
          exact fun _ h => nomatch h
    · exact h.of_eq (s.runPart_tracker hrdy p hcount) (s.runPart_scanner hrdy p hstart)
        (s.runPart_given hrdy p hcount hstart)

/-- Settles O54: the tracker's own steps keep its ranges, and every P_s comes from the tracker, by way of the start that it
gives. -/
theorem stepKeepsTheTrackerAndItsPeriods : Obligations.StepKeepsTheTrackerAndItsPeriods := by
  unfold Obligations.StepKeepsTheTrackerAndItsPeriods
  intro s t hs
  refine step_keeps (P := State.cycleSound) (fun _ _ h => h) (fun _ h => State.tick_cycleSound h)
    (fun s c t hs h => h.cycleSound hs) (fun s c x hs h => ?_)
    (fun hrdy x p hx _ _ => State.runPart_cycleSound (s := x.without p) hx hrdy p) hs
  cases h <;> exact hs

end Sys2Proof.Machine

/-! The Settings Store and the slots along a step (chapters 3 to 5 and 8 of the manual). -/

namespace Sys2Proof.Machine

/-! ## The Store (R133, R143 to R145) -/

theorem State.runPart_store_of_ne (hrdy : Bool) {p : CompletionPart} (s : State) (hp : p ≠ .settings) :
    (s.runPart hrdy p).store = s.store := by
  cases p with
  | settings => exact absurd rfl hp
  | _ => simp [State.runPart]

/-- What the Store makes of an epoch completion (R145). -/
theorem State.takeEpoch_store (s : State) : s.takeEpoch.store =
    if s.store.isSealed then { applied := s.store.pending, pending := s.store.pending, isSealed := false }
    else s.store := by
  unfold State.takeEpoch
  split
  · obtain ⟨_, _, _, e⟩ := s.applySettings_frame
    rw [e]
  · rfl

theorem Settings.powerOn_inRange (f : Fnom) : (Settings.powerOn f).inRange := by
  have filled {n : Nat} {α : Type} {P : α → Prop} {x : α} (hx : P x) (i : Fin n) : P ((Table.fill n x).get i) := by
    rwa [Table.get_fill]
  exact ⟨by cases f <;> decide, filled (P := ChannelItem.inRange) (by decide),
    filled (P := TransformerItem.inRange) ⟨by decide, fun _ h => (nomatch h), by decide⟩,
    filled (P := curveInRange) ⟨by decide, fun _ h => (nomatch h)⟩, filled (P := MonitorsItem.inRange) (by decide),
    filled (P := fun x : ContactItem => x.source.inRange = true) rfl, (by decide : AnnunciatorItem.powerOn.inRange)⟩

theorem Settings.powerOn_crossChecked (f : Fnom) : (Settings.powerOn f).crossChecked :=
  ⟨fun t h => by simp [Settings.powerOn, TransformerItem.powerOn] at h,
    fun k => by simp [Settings.powerOn, ContactItem.powerOn, sourceOk]⟩

theorem Store.powerOn_sound (f : Fnom) : (Store.powerOn f).sound :=
  ⟨Settings.powerOn_inRange f, Settings.powerOn_inRange f, Settings.powerOn_crossChecked f, fun h => nomatch h⟩

theorem Store.revert_sound {x : Store} (h : x.sound) : x.revert.sound := ⟨h.1, h.1, h.2.2.1, fun h => nomatch h⟩

theorem State.startCycle_store_sound {s : State} (h : s.store.sound) (number : Count32) (g : CycleStart) :
    (s.startCycle number g).store.sound := by simpa using h

theorem Taken.storeSound {s x : State} {k : RequestKind} {a : Answer} (hs : s.store.sound) (h : Taken s k x a) :
    x.store.sound := by
  have ⟨happlied, hpending, hchecked, hsealed⟩ := hs
  cases h with
  | stored _ c hopen hrange =>
    exact ⟨happlied, hrange hpending, hchecked, fun h => Bool.noConfusion (hopen.symm.trans h)⟩
  | committed hopen hcommit => exact ⟨happlied, hpending, hchecked, fun _ => (commitFailure_eq_none_iff _).mp hcommit⟩
  | discarded => exact Store.revert_sound hs
  | acknowledged sel _ _ => rw [State.acknowledgeSlots_store]; exact hs
  | silenced => rw [State.reformHorn_store]; exact hs
  | _ => exact hs

theorem Effect.storeSound {s t : State} {c : Instr} (hs : s.store.sound) (h : Effect s c t) : t.store.sound := by
  cases h with
  | reset rate fnom => exact Store.powerOn_sound fnom
  | started _ => rw [State.startCycle_store]; exact hs
  | crossed => rw [State.moveTracker_store]; exact hs
  | expired => rw [State.moveTracker_store]; exact hs
  | beat ackb => obtain ⟨_, _, _, e⟩ := s.beat_frame ackb; rw [e]; exact hs
  | framed _ r bs => obtain ⟨_, e⟩ := State.handFrame_eq bs _; rw [e]; exact hs
  | replyEnded _ =>
    unfold State.endReply
    dsimp only
    split
    · exact Store.revert_sound hs
    · exact hs
  | served k tag p hrdy x a _ hx _ => rw [State.responded_store]; exact Taken.storeSound (s := s.unoccupied) hs hx
  | _ => exact hs

theorem Begins.store {c : Instr} {s x : State} (h : Begins s c x) : x.store = s.store := by cases h <;> rfl

theorem State.runPart_storeSound {s : State} (hs : s.store.sound) (hrdy : Bool) (p : CompletionPart) :
    (s.runPart hrdy p).store.sound := by
  rcases eq_or_ne p .settings with rfl | hp
  · show s.takeEpoch.store.sound
    have ⟨_, hpending, _, hsealed⟩ := hs
    rw [State.takeEpoch_store]
    split
    · next hseal => exact ⟨hpending, hpending, hsealed hseal, fun h => nomatch h⟩
    · exact hs
  · rw [State.runPart_store_of_ne hrdy s hp]
    exact hs

theorem State.tick_store (s : State) : s.tick.store = s.store := by
  unfold State.tick
  split <;> split <;> rfl

/-- Settles O55: a SET stores only what has passed its range checks, a COMMIT seals only what has passed every cross-item
check, and the applied copy changes only to a sealed one. -/
theorem stepKeepsTheSettingsChecked : Obligations.StepKeepsTheSettingsChecked := by
  unfold Obligations.StepKeepsTheSettingsChecked
  intro s t hs
  exact step_keeps (P := fun x => x.store.sound) (fun _ _ h => h) (fun s h => by rw [State.tick_store]; exact h)
    (fun s c t hs h => h.storeSound hs) (fun s c x hs h => by rw [h.store]; exact hs)
    (fun hrdy x p hx _ _ => State.runPart_storeSound (s := x.without p) hx hrdy p) hs

/-! ## What a part of a completion does to a slot (R43, R57, R71, R85) -/

/-- `SlotMove s p u y`: part `p` of a completion, taken in `s`, can leave `y` of slot `u`, which is defined. -/
inductive SlotMove (s : State) : CompletionPart → Fin 8 → Slot → Prop
  | formed (u : Fin 8) : SlotMove s (.current u) u
      { s.slots.get u with cur := slotCurrent s.cond.channels (s.applied.transformers.get u).terms }
  | stepped (u : Fin 8) : SlotMove s (.thermal u) u { s.slots.get u with thermal := s.thermalAfter u }
  | graded (u : Fin 8) (h : Handed) (hhanded : s.flight.handedTo u = some h) :
    SlotMove s (.grade u) u { s.slots.get u with grade := s.gradeAfter u h }
  | heard (u : Fin 8) (h : LevelChange) (hchange : s.flight.changeOf u = some h) :
    SlotMove s (.annunciate u) u { s.slots.get u with
      signal := ((s.slots.get u).signal.levelChange s.applied.general.annunciateAt h.old h.new).1 }

theorem State.annunciate_slots (u : Fin 8) (old new : Level) (s : State) : (s.annunciate u old new).slots =
    s.slots.set u { s.slots.get u with
      signal := ((s.slots.get u).signal.levelChange s.applied.general.annunciateAt old new).1 } := by
  simp [State.annunciate, Table.modify]

/-- A part of a completion but the Store's moves at most one slot, which is defined. -/
theorem State.runPart_slots_cases (hrdy : Bool) {p : CompletionPart} (s : State) (hp : p ≠ .settings) :
    (s.runPart hrdy p).slots = s.slots ∨ ∃ u y, s.isDefined u = true ∧ SlotMove s p u y ∧
      (s.runPart hrdy p).slots = s.slots.set u y := by
  cases p with
  | settings => exact absurd rfl hp
  | current u =>
    cases hdefined : s.isDefined u with
    | false => exact .inl (by simp [State.runPart, State.formCurrent, hdefined])
    | true =>
      refine .inr ⟨u, _, hdefined, .formed u, ?_⟩
      simp [State.runPart, State.formCurrent, hdefined, Table.modify]
  | thermal u =>
    cases hdefined : s.isDefined u with
    | false => exact .inl (by simp [State.runPart, State.stepThermal, hdefined])
    | true =>
      refine .inr ⟨u, _, hdefined, .stepped u, ?_⟩
      simp only [State.runPart, State.stepThermal, hdefined, if_true]
      split <;> rfl
  | grade u =>
    cases hdefined : s.isDefined u with
    | false => left; simp only [State.runPart, State.gradeSlot, hdefined]; split <;> rfl
    | true =>
      cases hhanded : s.flight.handedTo u with
      | none => left; simp only [State.runPart, State.gradeSlot, hhanded]; rfl
      | some h =>
        refine .inr ⟨u, _, hdefined, .graded u h hhanded, ?_⟩
        simp only [State.runPart, State.gradeSlot, hhanded, hdefined, if_true]
        exact State.gradeOn_slots u h _
  | annunciate u =>
    show (s.hearChange u).slots = s.slots ∨ _
    rcases s.hearChange_cases u with ⟨e, -⟩ | ⟨h, hchange, hdefined, e⟩
    · exact .inl (by rw [e]; rfl)
    · refine .inr ⟨u, _, hdefined, .heard u h hchange, ?_⟩
      show (s.hearChange u).slots = _
      rw [e, State.annunciate_slots]
      rfl
  | _ => exact .inl (by simp [State.runPart])

/-! ## What an apply does to a slot (R48 to R53, R95) -/

/-- One slot re-evaluated against a new A (R95). -/
def Slot.newA (a : Level) (x : Slot) : Slot := { x with signal := (x.signal.newA a x.grade.level).1 }

theorem State.reevaluate_slots (a : Level) (s : State) (u v : Fin 8) : (s.reevaluate a u).slots.get v =
    if v = u ∧ s.isDefined u = true then (s.slots.get v).newA a else s.slots.get v := by
  unfold State.reevaluate
  split
  · next hdefined =>
    rw [State.reformPattern_slots, State.putSignal_slots, Table.get_modify]
    by_cases h : v = u
    · subst h
      simp [hdefined, Slot.newA]
    · simp [h]
  · next hdefined => rw [if_neg (fun h => hdefined h.2)]

theorem State.reevaluateAll_slots (a : Level) (us : List (Fin 8)) (hus : us.Nodup) (v : Fin 8) : ∀ s : State,
    (us.foldl (State.reevaluate a) s).slots.get v =
      if v ∈ us ∧ s.isDefined v = true then (s.slots.get v).newA a else s.slots.get v := by
  induction us with
  | nil => simp
  | cons u us ih =>
    intro s
    obtain ⟨hu, hus⟩ := List.nodup_cons.mp hus
    have hdefined : (s.reevaluate a u).isDefined v = s.isDefined v := by
      obtain ⟨_, _, e⟩ := s.movesPanel_reevaluate a u
      rw [e]
      rfl
    rw [List.foldl_cons, ih hus, hdefined, State.reevaluate_slots]
    by_cases h : v = u
    · subst h
      simp [hu]
    · simp [h]

/-- What an apply makes of a slot: first what its class says, then the re-evaluation under a changed A. -/
theorem State.applySettings_slot (s : State) (u : Fin 8) : s.applySettings.slots.get u =
    let y := (s.slots.get u).apply (slotClass s.store.applied s.store.pending u)
    if s.store.applied.general.annunciateAt ≠ s.store.pending.general.annunciateAt ∧
        (s.store.pending.transformers.get u).defined = true then y.newA s.store.pending.general.annunciateAt
    else y := by
  have hclass : (s.adopted.applySlots s.store.applied s.store.pending).slots.get u =
      (s.slots.get u).apply (slotClass s.store.applied s.store.pending u) := by
    simp [State.applySlots, State.adopted, State.applyChannels]
  have hdefined : (s.adopted.applySlots s.store.applied s.store.pending).isDefined u =
      (s.store.pending.transformers.get u).defined := by
    simp [State.isDefined, State.applySlots, State.adopted, State.applyChannels]
  have hpanel (x : State) : (x.applyAnnunciator s.store.applied s.store.pending).slots = x.slots := by
    unfold State.applyAnnunciator
    split <;> rfl
  simp only [State.applySettings_eq, State.notify_slots, State.repanelled, State.reformTone_slots, hpanel,
    State.applyAnnunciateAt]
  split
  · next hsame => simp [hsame, hclass]
  · next hchanged =>
    rw [State.reevaluateAll_slots _ _ (List.nodup_finRange 8), hclass, hdefined]
    simp [hchanged]

/-! ## A slot that is not defined holds nothing (section 3.4) -/

theorem State.undefinedSlotsZero.of_eq {s t : State} (h : s.undefinedSlotsZero) (hslots : t.slots = s.slots)
    (hdefined : ∀ u, t.isDefined u = s.isDefined u) : t.undefinedSlotsZero := by
  intro u hu
  rw [hslots]
  exact h u ((hdefined u).symm.trans hu)

/-- A change of slots that are defined leaves those that are not empty. -/
theorem State.undefinedSlotsZero.of_defined {s t : State} (h : s.undefinedSlotsZero)
    (hslots : ∀ u, s.isDefined u = false → t.slots.get u = s.slots.get u)
    (hdefined : ∀ u, t.isDefined u = s.isDefined u) : t.undefinedSlotsZero := by
  intro u hu
  have hu' := (hdefined u).symm.trans hu
  rw [hslots u hu']
  exact h u hu'

theorem State.acknowledgeSlots_of_not_named (src : AckSource) {sel : Fin 8 → Bool} (s : State) {u : Fin 8}
    (h : sel u = false) : (s.acknowledgeSlots src sel).slots.get u = s.slots.get u := by
  rw [State.acknowledgeSlots_slot, h]
  rfl

/-- A beat moves no slot that is not defined (R100). -/
theorem State.beat_slots (ackb : Bool) (s : State) : (s.beat ackb).slots = (s.sampleAckb ackb).slots := by
  simp [State.beat]

theorem State.sampleAckb_slots_cases (ackb : Bool) (s : State) : (s.sampleAckb ackb).slots = s.slots ∨
    (s.sampleAckb ackb).slots = ((s.setAnn { s.ann with debounce := (s.ann.debounce.sample ackb).1 }).acknowledgeSlots
      .button (fun u => s.isDefined u)).slots := by
  rw [State.sampleAckb]
  split
  · exact .inr rfl
  · exact .inl rfl

theorem State.beat_slot_of_undefined (ackb : Bool) (s : State) {u : Fin 8} (h : s.isDefined u = false) :
    (s.beat ackb).slots.get u = s.slots.get u := by
  rw [State.beat_slots]
  rcases s.sampleAckb_slots_cases ackb with e | e <;> rw [e]
  exact State.acknowledgeSlots_of_not_named .button _ h

theorem Taken.isDefined {s x : State} {k : RequestKind} {a : Answer} (h : Taken s k x a) (u : Fin 8) :
    x.isDefined u = s.isDefined u := by
  obtain ⟨-, -, -, -, -, happlied⟩ := h.frame
  exact congrArg (fun c : Settings => (c.transformers.get u).defined) happlied

/-- No request moves a slot that is not defined (R65, R67, R97). -/
theorem Taken.slot_of_undefined {s x : State} {k : RequestKind} {a : Answer} (h : Taken s k x a) {u : Fin 8}
    (hu : s.isDefined u = false) : x.slots.get u = s.slots.get u := by
  cases h with
  | acknowledged sel _ hsel =>
    exact State.acknowledgeSlots_of_not_named .request s
      (Bool.eq_false_iff.mpr fun h => Bool.noConfusion (hu.symm.trans (hsel u h)))
  | silenced => rw [State.reformHorn_slots]; rfl
  | cleared slots hslots => exact (hslots u).resolve_right fun h => Bool.noConfusion (hu.symm.trans h.1)
  | preset v _ _ hdefined _ =>
    exact Table.get_modify_ne _ _ fun h => Bool.noConfusion (hu.symm.trans (h ▸ hdefined))
  | _ => rfl

theorem Effect.undefinedSlotsZero {s t : State} {c : Instr} (hs : s.undefinedSlotsZero) (h : Effect s c t) :
    t.undefinedSlotsZero := by
  cases h with
  | reset rate fnom => exact fun u _ => Table.get_fill Slot.zero u
  | started _ => exact hs.of_eq (by simp) (fun u => by simp [State.isDefined])
  | crossed => exact hs.of_eq (by simp) (fun u => by simp [State.isDefined])
  | expired => exact hs.of_eq (by simp) (fun u => by simp [State.isDefined])
  | beat ackb =>
    refine hs.of_defined (fun u hu => s.beat_slot_of_undefined ackb hu) fun u => ?_
    obtain ⟨_, _, _, e⟩ := s.beat_frame ackb
    rw [e]
    rfl
  | framed _ r bs => obtain ⟨_, e⟩ := State.handFrame_eq bs _; rw [e]; exact hs
  | replyEnded _ =>
    unfold State.endReply
    dsimp only
    split <;> exact hs
  | served k tag p hrdy x a _ hx _ =>
    have hopen : s.unoccupied.undefinedSlotsZero := hs
    refine (hopen.of_defined (fun u hu => hx.slot_of_undefined hu) hx.isDefined).of_eq ?_ fun u => ?_
    · exact State.responded_slots ..
    · simp [State.isDefined]
  | _ => exact hs

theorem Slot.apply_eq_zero {old new : Settings} {u : Fin 8} {x : Slot} (hnew : (new.transformers.get u).defined = false)
    (hx : (old.transformers.get u).defined = false → x = .zero) : x.apply (slotClass old new u) = .zero := by
  cases hold : (old.transformers.get u).defined with
  | true => simp [slotClass, hold, hnew, Slot.apply]
  | false => simpa [slotClass, hold, hnew, Slot.apply] using hx hold

theorem State.runPart_undefinedSlotsZero {s : State} (hs : s.undefinedSlotsZero) (hrdy : Bool) (p : CompletionPart) :
    (s.runPart hrdy p).undefinedSlotsZero := by
  rcases eq_or_ne p .settings with rfl | hp
  · show s.takeEpoch.undefinedSlotsZero
    unfold State.takeEpoch
    split
    · intro u hu
      have hnew : (s.store.pending.transformers.get u).defined = false := by
        obtain ⟨_, _, _, e⟩ := s.applySettings_frame
        rw [e] at hu
        exact hu
      rw [State.applySettings_slot, if_neg (by simp [hnew])]
      exact Slot.apply_eq_zero hnew (hs u)
    · exact hs
  · have hdefined (u : Fin 8) : (s.runPart hrdy p).isDefined u = s.isDefined u :=
      congrArg (fun x : Store => (x.applied.transformers.get u).defined) (s.runPart_store_of_ne hrdy hp)
    rcases s.runPart_slots_cases hrdy hp with e | ⟨v, y, hv, -, e⟩
    · exact hs.of_eq e hdefined
    · refine hs.of_defined (fun u hu => ?_) hdefined
      rw [e]
      exact Table.get_set_ne _ _ fun h => Bool.noConfusion (hu.symm.trans (h ▸ hv))

theorem State.tick_slots (s : State) : s.tick.slots = s.slots := by
  unfold State.tick
  split <;> split <;> rfl

theorem step_keeps_undefinedSlotsZero {s t : State} (hs : s.undefinedSlotsZero) (h : step s = .next t) :
    t.undefinedSlotsZero := by
  refine step_keeps (P := State.undefinedSlotsZero) (fun _ _ h => h) (fun s hs => ?_)
    (fun s c t hs h => h.undefinedSlotsZero hs) (fun s c x hs h => ?_)
    (fun hrdy x p hx _ _ => State.runPart_undefinedSlotsZero (s := x.without p) hx hrdy p) hs h
  · exact hs.of_eq s.tick_slots fun u => by simp [State.isDefined, State.tick_store]
  · cases h <;> exact hs

end Sys2Proof.Machine

namespace Sys2Proof.Machine

/-! ## What a command that is no completion does to a slot (R65, R67, R96) -/

/-- `SlotEffect s u c y`: command `c`, which is no completion, can leave `y` of slot `u` in state `s`. -/
inductive SlotEffect (s : State) (u : Fin 8) : Instr → Slot → Prop
  | stays (c : Instr) : SlotEffect s u c (s.slots.get u)
  | reset (rate : BitVec 2) (fnom : Fnom) : SlotEffect s u (.powerOnReset rate fnom) .zero
  | acknowledged (c : Instr) : SlotEffect s u c { s.slots.get u with
      signal := (s.slots.get u).signal.acknowledge s.applied.general.annunciateAt (s.heardLevel u) }
  | cleared (tag : Byte) (p : List Byte) (hrdy : Bool) : SlotEffect s u (.clearExposure tag p hrdy)
      { s.slots.get u with thermal := (s.slots.get u).thermal.clear }
  | preset (tag : Byte) (p : List Byte) (hrdy : Bool) (rise exposure : Nat) (hmax : exposure ≤ 4294967295) :
    SlotEffect s u (.presetThermal tag p hrdy) { s.slots.get u with
      thermal := (s.slots.get u).thermal.preset (topRise (s.applied.curves.get u)) rise exposure }

theorem slotEffect_acknowledgeSlots (s : State) (src : AckSource) (sel : Fin 8 → Bool) (u : Fin 8) (c : Instr) :
    SlotEffect s u c ((s.acknowledgeSlots src sel).slots.get u) := by
  rw [State.acknowledgeSlots_slot]
  split
  · exact .acknowledged c
  · exact .stays c

theorem Taken.slot {s x : State} {k : RequestKind} {a : Answer} (h : Taken s k x a) (u : Fin 8) (tag : Byte)
    (p : List Byte) (hrdy : Bool) : SlotEffect s u (k.command tag p hrdy) (x.slots.get u) := by
  cases h with
  | acknowledged sel _ _ => exact slotEffect_acknowledgeSlots s _ sel u _
  | silenced => rw [State.reformHorn_slots]; exact .stays _
  | cleared slots hslots =>
    rcases hslots u with e | ⟨-, e⟩
    · exact (show slots.get u = _ from e) ▸ .stays _
    · exact (show slots.get u = _ from e) ▸ .cleared tag p hrdy
  | preset v rise exposure _ hmax =>
    simp only [State.modifyThermal, State.setSlots_slots, Table.get_modify]
    split
    · next h =>
      subst h
      exact .preset tag p hrdy rise exposure hmax
    · exact .stays _
  | _ => exact .stays _

theorem SlotEffect.of_unoccupied {s : State} {u : Fin 8} {c : Instr} {y : Slot} (h : SlotEffect s.unoccupied u c y) :
    SlotEffect s u c y := by
  cases h with
  | stays => exact .stays c
  | reset rate fnom => exact .reset rate fnom
  | acknowledged => exact .acknowledged c
  | cleared tag p hrdy => exact .cleared tag p hrdy
  | preset tag p hrdy rise exposure hmax => exact .preset tag p hrdy rise exposure hmax

theorem Effect.slot {s t : State} {c : Instr} (h : Effect s c t) (u : Fin 8) : SlotEffect s u c (t.slots.get u) := by
  cases h with
  | reset rate fnom => exact (Table.get_fill Slot.zero u).symm ▸ .reset rate fnom
  | started _ => rw [State.startCycle_slots]; exact .stays _
  | crossed => rw [State.moveTracker_slots]; exact .stays _
  | expired => rw [State.moveTracker_slots]; exact .stays _
  | beat ackb =>
    rw [State.beat_slots]
    rcases s.sampleAckb_slots_cases ackb with e | e <;> rw [e]
    · exact .stays _
    · rw [State.acknowledgeSlots_slot]
      split
      · exact .acknowledged _
      · exact .stays _
  | framed _ r bs => obtain ⟨_, e⟩ := State.handFrame_eq bs _; rw [e]; exact .stays _
  | replyEnded _ => obtain ⟨_, _, _, _, e⟩ := s.endReply_frame; rw [e]; exact .stays _
  | served k tag p hrdy x a _ hx _ => rw [State.responded_slots]; exact (hx.slot u tag p hrdy).of_unoccupied
  | _ => exact .stays _

theorem Taken.applied {s x : State} {k : RequestKind} {a : Answer} (h : Taken s k x a) : x.applied = s.applied := by
  obtain ⟨-, -, -, -, -, happlied⟩ := h.frame
  exact happlied

/-- No command but a completion and a power-on reset reaches the applied settings (R133, R145). -/
theorem Effect.applied {s t : State} {c : Instr} (h : Effect s c t) :
    t.applied = s.applied ∨ (∃ rate fnom, c = .powerOnReset rate fnom) ∧ ∃ f, t.applied = Settings.powerOn f := by
  cases h with
  | reset rate fnom => exact .inr ⟨⟨rate, fnom, rfl⟩, fnom, rfl⟩
  | started _ => exact .inl (by simp [State.applied])
  | crossed => exact .inl (by simp [State.applied])
  | expired => exact .inl (by simp [State.applied])
  | beat ackb => obtain ⟨_, _, _, e⟩ := s.beat_frame ackb; exact .inl (by rw [e]; rfl)
  | framed _ r bs => obtain ⟨_, e⟩ := State.handFrame_eq bs _; exact .inl (by rw [e]; rfl)
  | replyEnded _ =>
    left
    unfold State.endReply
    dsimp only
    split <;> rfl
  | served k tag p hrdy x a _ hx _ =>
    refine .inl ?_
    rw [State.applied, State.responded_store]
    exact hx.applied
  | _ => exact .inl rfl

/-! ## The thermal records (R57, R60, R63) -/

theorem Thermal.zero_sound : Slot.zero.thermal.sound := by decide

theorem Thermal.step_sound {item : TransformerItem} {curve : List Breakpoint} {x : Thermal} (hitem : item.inRange)
    (hcurve : curveInRange curve) (hx : x.sound) (a : Nat) : (x.step item curve a).sound := by
  have ⟨_, hrise, _, _⟩ := hx
  have htarget := curveTarget_le hcurve a
  exact ⟨htarget, riseStep_le hitem htarget hrise, Nat.min_le_left _ _, (Thermal.step_satReported hx).mp⟩

theorem topRise_le {curve : List Breakpoint} (h : curveInRange curve) : topRise curve ≤ 60000 := by
  cases hlast : curve.getLast? with
  | none => simp [topRise, hlast]
  | some b =>
    rw [topRise_of_last hlast]
    exact (h.2 b (List.mem_of_getLast? hlast)).2.2

theorem Thermal.preset_sound {x : Thermal} (hx : x.sound) {top rise exposure : Nat} (htop : top ≤ 60000)
    (hmax : exposure ≤ 4294967295) : (x.preset top rise exposure).sound := by
  obtain ⟨htarget, -, -, -⟩ := hx
  refine ⟨htarget, (Nat.min_le_right _ _).trans htop, hmax, fun h => ?_⟩
  simp only [Thermal.preset] at h
  split at h
  · cases h
  · next hfull => exact le_antisymm hmax (Nat.not_lt.mp hfull)

/-- The Store and every thermal record are sound. -/
def State.heatSound (s : State) : Prop := s.store.sound ∧ ∀ u, (s.slots.get u).thermal.sound

theorem State.runPart_heatSound {s : State} (hs : s.heatSound) (hrdy : Bool) (p : CompletionPart) :
    (s.runPart hrdy p).heatSound := by
  obtain ⟨hstore, hheat⟩ := hs
  refine ⟨State.runPart_storeSound hstore hrdy p, fun u => ?_⟩
  rcases eq_or_ne p .settings with rfl | hp
  · show (s.takeEpoch.slots.get u).thermal.sound
    unfold State.takeEpoch
    split
    · have hclass : ((s.slots.get u).apply (slotClass s.store.applied s.store.pending u)).thermal.sound := by
        generalize slotClass s.store.applied s.store.pending u = k
        cases k with
        | newlyDefined => exact Thermal.zero_sound
        | removed => exact Thermal.zero_sound
        | _ => exact hheat u
      rw [State.applySettings_slot]
      dsimp only
      split <;> exact hclass
    · exact hheat u
  · rcases s.runPart_slots_cases hrdy hp with e | ⟨v, y, hv, hmove, e⟩ <;> rw [e]
    · exact hheat u
    · rw [Table.get_set]
      split
      · cases hmove with
        | stepped =>
          obtain ⟨⟨-, -, htransformers, hcurves, -⟩, -⟩ := hstore
          exact Thermal.step_sound (htransformers v) (hcurves v) (hheat v) _
        | _ => exact hheat v
      · exact hheat u

theorem Effect.heatSound {s t : State} {c : Instr} (hs : s.heatSound) (h : Effect s c t) : t.heatSound := by
  have ⟨hstore, hheat⟩ := hs
  refine ⟨h.storeSound hstore, fun u => ?_⟩
  have hslot := h.slot u
  generalize t.slots.get u = y at hslot
  cases hslot with
  | reset => exact Thermal.zero_sound
  | cleared =>
    obtain ⟨htarget, hrise, -, -⟩ := hheat u
    exact ⟨htarget, hrise, Nat.zero_le _, fun h => nomatch h⟩
  | preset _ _ _ rise exposure hmax =>
    obtain ⟨⟨-, -, -, hcurves, -⟩, -⟩ := hstore
    exact Thermal.preset_sound (hheat u) (topRise_le (hcurves u)) hmax
  | _ => exact hheat u

/-- Settles O56: only the parts and requests of defined slots move a slot, and an apply empties what it removes; the steps,
the requests and the apply each keep a thermal record in range. -/
theorem stepKeepsEmptySlotsAndThermalRanges : Obligations.StepKeepsEmptySlotsAndThermalRanges := by
  unfold Obligations.StepKeepsEmptySlotsAndThermalRanges
  refine ⟨fun s t hs h => step_keeps_undefinedSlotsZero hs h, fun s t hstore hheat h => ?_⟩
  have ht : t.heatSound := by
    refine step_keeps (P := State.heatSound) (fun _ _ h => h) (fun s hs => ?_) (fun s c t hs h => h.heatSound hs)
      (fun s c x hs h => ?_) (fun hrdy x p hx _ _ => State.runPart_heatSound (s := x.without p) hx hrdy p)
      ⟨hstore, hheat⟩ h
    · unfold State.heatSound
      rw [State.tick_store, State.tick_slots]
      exact hs
    · cases h <;> exact hs
  exact ht.2

/-! ## The evaluator records (R70, R77 to R80) -/

theorem Grade.zero_sound {m : MonitorsItem} (hm : m.inRange) : Slot.zero.grade.sound m := by
  obtain ⟨-, -, -, -, -, hup, -, hdown, -⟩ := hm
  exact ⟨hup, hdown, .inl rfl, fun _ => rfl, fun _ => rfl, fun h => absurd rfl h, fun h => absurd rfl h⟩

theorem Grade.restart_sound {m : MonitorsItem} (hm : m.inRange) (g : Grade) : g.restart.sound m := by
  obtain ⟨-, -, -, -, -, hup, -, hdown, -⟩ := hm
  exact ⟨hup, hdown, .inl rfl, fun _ => rfl, fun _ => rfl, fun h => absurd rfl h, fun h => absurd rfl h⟩

theorem Grade.persist_sound {m : MonitorsItem} {g : Grade} (hm : m.inRange) (hg : g.sound m) (dem : Level) :
    (g.persist m dem).sound m := by
  obtain ⟨-, -, -, -, -, hpUp, -, hpDown, -⟩ := hm
  obtain ⟨hup, hdown, -, -, -, hmin, hmax⟩ := hg
  rcases lt_trichotomy g.level dem with hlt | heq | hgt
  · rcases eq_or_ne (g.up + 1) m.pUp with hrun | hrun
    · rw [Grade.persist_of_raised hlt hrun]
      exact ⟨hpUp, hpDown, .inl rfl, fun _ => rfl, fun _ => rfl, fun h => absurd rfl h, fun h => absurd rfl h⟩
    · rw [Grade.persist_of_running_up hlt hrun]
      refine ⟨by dsimp only; omega, hpDown, .inr rfl, fun h => absurd h (Nat.succ_ne_zero _), fun _ => rfl, fun _ => ?_,
        fun h => absurd rfl h⟩
      dsimp only
      split
      · exact hlt
      · next h => exact lt_min (hmin h) hlt
  · rw [Grade.persist_of_eq heq.symm]
    exact ⟨hpUp, hpDown, .inl rfl, fun _ => rfl, fun _ => rfl, fun h => absurd rfl h, fun h => absurd rfl h⟩
  · rcases eq_or_ne (g.down + 1) m.pDown with hrun | hrun
    · rw [Grade.persist_of_lowered hgt hrun]
      exact ⟨hpUp, hpDown, .inl rfl, fun _ => rfl, fun _ => rfl, fun h => absurd rfl h, fun h => absurd rfl h⟩
    · rw [Grade.persist_of_running_down hgt hrun]
      refine ⟨hpUp, by dsimp only; omega, .inl rfl, fun _ => rfl, fun h => absurd h (Nat.succ_ne_zero _),
        fun h => absurd rfl h, fun _ => ?_⟩
      dsimp only
      split
      · exact hgt
      · next h => exact max_lt (hmax h) hgt

theorem Grade.takeDemands_sound {m : MonitorsItem} {g : Grade} (hg : g.sound m) (a r e : Nat) :
    (g.takeDemands m a r e).sound m := by
  unfold Grade.takeDemands Grade.sound
  exact hg

theorem State.gradeAfter_sound {s : State} {u : Fin 8} (hm : (s.applied.monitors.get u).inRange)
    (hg : (s.slots.get u).grade.sound (s.applied.monitors.get u)) (h : Handed) :
    (s.gradeAfter u h).sound (s.applied.monitors.get u) := by
  rw [State.gradeAfter_eq]
  exact Grade.persist_sound hm (Grade.takeDemands_sound hg _ _ _) _

/-- The Store and the evaluator record of every defined slot are sound. -/
def State.runsSound (s : State) : Prop :=
  s.store.sound ∧ ∀ u, s.isDefined u = true → (s.slots.get u).grade.sound (s.applied.monitors.get u)

/-- An apply leaves the record of every defined slot sound under the new settings (R50, R51, R52). -/
theorem Grade.apply_sound {old new : Settings} {u : Fin 8} {x : Slot} (hnew : (new.monitors.get u).inRange)
    (hdefined : (new.transformers.get u).defined = true)
    (hx : (old.transformers.get u).defined = true → x.grade.sound (old.monitors.get u)) :
    (x.apply (slotClass old new u)).grade.sound (new.monitors.get u) := by
  unfold slotClass
  rw [hdefined]
  cases hold : (old.transformers.get u).defined with
  | false => exact Grade.zero_sound hnew
  | true =>
    dsimp only
    split
    · next hsame =>
      obtain ⟨-, -, hmonitors⟩ := hsame
      rw [← hmonitors]
      exact hx hold
    · exact Grade.restart_sound hnew _

theorem State.runPart_runsSound {s : State} (hs : s.runsSound) (hrdy : Bool) (p : CompletionPart) :
    (s.runPart hrdy p).runsSound := by
  have ⟨hstore, hruns⟩ := hs
  refine ⟨State.runPart_storeSound hstore hrdy p, fun u => ?_⟩
  rcases eq_or_ne p .settings with rfl | hp
  · show s.takeEpoch.isDefined u = true → (s.takeEpoch.slots.get u).grade.sound (s.takeEpoch.applied.monitors.get u)
    unfold State.takeEpoch
    split
    · obtain ⟨-, ⟨-, -, -, -, hmonitors, -⟩, -⟩ := hstore
      have hnew : s.applySettings.applied = s.store.pending := by
        obtain ⟨_, _, _, e⟩ := s.applySettings_frame
        rw [e]
        rfl
      intro hdefined
      have hdefined' : (s.store.pending.transformers.get u).defined = true := hnew ▸ hdefined
      have hclass := Grade.apply_sound (hmonitors u) hdefined' (hruns u)
      rw [hnew, State.applySettings_slot]
      dsimp only
      split <;> exact hclass
    · exact hruns u
  · have hsame := s.runPart_store_of_ne hrdy hp
    simp only [State.isDefined, State.applied, hsame]
    intro hdefined
    rcases s.runPart_slots_cases hrdy hp with e | ⟨v, y, hv, hmove, e⟩ <;> rw [e]
    · exact hruns u hdefined
    · rw [Table.get_set]
      split
      · next huv =>
        subst huv
        cases hmove with
        | graded _ h _ =>
          obtain ⟨⟨-, -, -, -, hmonitors, -⟩, -⟩ := hstore
          exact State.gradeAfter_sound (hmonitors u) (hruns u hdefined) h
        | _ => exact hruns u hdefined
      · exact hruns u hdefined

theorem Effect.runsSound {s t : State} {c : Instr} (hs : s.runsSound) (h : Effect s c t) : t.runsSound := by
  have ⟨hstore, hruns⟩ := hs
  have htstore := h.storeSound hstore
  refine ⟨htstore, fun u hdefined => ?_⟩
  have hslot := h.slot u
  rcases h.applied with happlied | ⟨-, f, happlied⟩
  · have hdefined' : s.isDefined u = true := by
      rw [← hdefined]
      exact congrArg (fun c : Settings => (c.transformers.get u).defined) happlied.symm
    rw [happlied]
    generalize t.slots.get u = y at hslot
    cases hslot with
    | reset =>
      obtain ⟨⟨-, -, -, -, hmonitors, -⟩, -⟩ := hstore
      exact Grade.zero_sound (hmonitors u)
    | _ => exact hruns u hdefined'
  · rw [State.applied] at happlied
    rw [State.isDefined, happlied] at hdefined
    simp [Settings.powerOn, TransformerItem.powerOn] at hdefined

/-- Settles O57: a grading keeps the runs below their constants and their extremes on their sides, and an apply restarts
them or keeps them with their monitors. -/
theorem stepKeepsTheRuns : Obligations.StepKeepsTheRuns := by
  unfold Obligations.StepKeepsTheRuns
  intro s t hstore hruns h
  have ht : t.runsSound := by
    refine step_keeps (P := State.runsSound) (fun _ _ h => h) (fun s hs => ?_) (fun s c t hs h => h.runsSound hs)
      (fun s c x hs h => ?_) (fun hrdy x p hx _ _ => State.runPart_runsSound (s := x.without p) hx hrdy p)
      ⟨hstore, hruns⟩ h
    · unfold State.runsSound State.isDefined State.applied
      rw [State.tick_store, State.tick_slots]
      exact hs
    · cases h <;> exact hs
  exact ht.2

end Sys2Proof.Machine

namespace Sys2Proof.Machine

/-! ## A slot's exposure falls only by the causes named (R62) -/

theorem exposure_le_step (item : TransformerItem) (curve : List Breakpoint) (a : Nat) {x : Thermal}
    (hx : x.exposure ≤ 4294967295) : x.exposure ≤ (x.step item curve a).exposure :=
  le_min hx (Nat.le_add_right _ _)

/-- Since `s`, in whose slot `u` the exposure is within its maximum, the exposure has not fallen unless the set that `s`
has sealed defines or removes the slot. -/
structure State.exposureHeld (s : State) (u : Fin 8) (x : State) : Prop where
  store : x.store = s.store ∨ x.store.isSealed = false
  exposure : (s.slots.get u).thermal.exposure ≤ (x.slots.get u).thermal.exposure ∨
    s.store.isSealed = true ∧ (x.store.applied.transformers.get u).defined ≠ (s.store.applied.transformers.get u).defined

theorem Slot.apply_exposure {old new : Settings} {u : Fin 8} (x : Slot)
    (h : (new.transformers.get u).defined = (old.transformers.get u).defined) :
    (x.apply (slotClass old new u)).thermal.exposure = x.thermal.exposure := by
  unfold slotClass
  rw [h]
  cases (old.transformers.get u).defined with
  | false => rfl
  | true =>
    dsimp only
    split <;> rfl

theorem State.applySettings_exposure {s : State} {u : Fin 8}
    (h : (s.store.pending.transformers.get u).defined = (s.store.applied.transformers.get u).defined) :
    (s.applySettings.slots.get u).thermal.exposure = (s.slots.get u).thermal.exposure := by
  rw [State.applySettings_slot]
  dsimp only
  split
  · exact Slot.apply_exposure _ h
  · exact Slot.apply_exposure _ h

theorem State.runPart_exposureHeld {s x : State} {u : Fin 8} (hmax : (s.slots.get u).thermal.exposure ≤ 4294967295)
    (hx : s.exposureHeld u x) (hrdy : Bool) (p : CompletionPart) : s.exposureHeld u (x.runPart hrdy p) := by
  obtain ⟨hstore, hexposure⟩ := hx
  rcases eq_or_ne p .settings with rfl | hp
  · show s.exposureHeld u x.takeEpoch
    unfold State.takeEpoch
    split
    · next hsealed =>
      have hsame : x.store = s.store := hstore.resolve_right (by simp [hsealed])
      have hnew : x.applySettings.store = ⟨x.store.pending, x.store.pending, false⟩ := by
        obtain ⟨_, _, _, e⟩ := x.applySettings_frame
        rw [e]
      refine ⟨.inr (by rw [hnew]), ?_⟩
      rw [hnew]
      rcases eq_or_ne (x.store.pending.transformers.get u).defined (x.store.applied.transformers.get u).defined with h | h
      · left
        rw [State.applySettings_exposure h]
        exact hexposure.resolve_right (fun ⟨_, hne⟩ => hne (by rw [hsame]))
      · exact .inr ⟨hsame ▸ hsealed, hsame ▸ h⟩
    · exact ⟨hstore, hexposure⟩
  · have hsame := x.runPart_store_of_ne hrdy hp
    refine ⟨by rwa [hsame], ?_⟩
    rw [hsame]
    refine hexposure.imp_left fun hle => ?_
    rcases x.runPart_slots_cases hrdy hp with e | ⟨v, y, hv, hmove, e⟩ <;> rw [e]
    · exact hle
    · rw [Table.get_set]
      split
      · next huv =>
        subst huv
        cases hmove with
        | stepped =>
          rcases Nat.le_total (x.slots.get u).thermal.exposure 4294967295 with hle' | hgt
          · exact hle.trans (exposure_le_step _ _ _ hle')
          · exact le_min hmax (hle.trans (Nat.le_add_right _ _))
        | _ => exact hle
      · exact hle

/-- Settles O49: of the requests only two lower an exposure, a thermal step raises it up to its maximum, and an apply
empties only the slots that it defines or removes. -/
theorem exposureNeverDecreasesOtherwise : Obligations.ExposureNeverDecreasesOtherwise := by
  unfold Obligations.ExposureNeverDecreasesOtherwise
  intro c s t u h hmax hless
  rcases exec_cases h with h | ⟨x, hrdy, ps, hx, rfl⟩
  · have hslot := h.slot u
    generalize t.slots.get u = y at hslot hless
    cases hslot with
    | cleared tag p hrdy => exact .inl ⟨tag, p, hrdy, rfl⟩
    | preset tag p hrdy => exact .inr (.inl ⟨tag, p, hrdy, rfl⟩)
    | reset rate fnom => exact .inr (.inr (.inl ⟨rate, fnom, rfl⟩))
    | stays => exact absurd hless (lt_irrefl _)
    | acknowledged => exact absurd hless (lt_irrefl _)
  · have hbegin : s.exposureHeld u x := by cases hx <;> exact ⟨.inl rfl, .inl le_rfl⟩
    have hend := State.takeParts_keeps (P := s.exposureHeld u) (hrdy := hrdy)
      (fun y p hy _ _ => State.runPart_exposureHeld (x := y.without p) hmax ⟨hy.store, hy.exposure⟩ hrdy p) ps x hbegin
    exact .inr (.inr (.inr (hend.exposure.resolve_left (not_le.mpr hless))))

/-- No part reaches the list of the parts that wait. -/
theorem State.runPart_waiting (hrdy : Bool) (p : CompletionPart) (s : State) :
    (s.runPart hrdy p).flight.parts = s.flight.parts := by
  cases p with
  | settings => simp [State.runPart]
  | nextStep => rcases s.takeNextStep_cases hrdy with e | ⟨_, _, _, e⟩ <;> simp [State.runPart, e]
  | nextLevel => rcases s.takeNextLevel_cases hrdy with e | ⟨_, _, _, e⟩ <;> simp [State.runPart, e]
  | _ => simp [State.runPart]

/-- A part that is taken waits no more; the others wait as before. -/
theorem State.mem_runPart {x : State} {p q : CompletionPart} {hrdy : Bool} :
    q ∈ ((x.without p).runPart hrdy p).flight.parts ↔ q ∈ x.flight.parts ∧ q ≠ p := by
  rw [State.runPart_waiting]
  exact List.mem_filter.trans (and_congr_right' decide_eq_true_iff)

/-! ## A slot's level moves only at an epoch completion (R65, R88) -/

/-- Since `s` no grading and no apply waits, and the level of slot `u` has not moved. -/
structure State.levelHeld (s : State) (u : Fin 8) (x : State) : Prop where
  grade : ∀ v, .grade v ∉ x.flight.parts
  settings : .settings ∉ x.flight.parts
  level : (x.slots.get u).grade.level = (s.slots.get u).grade.level

theorem State.runPart_levelHeld {s x : State} {u : Fin 8} (hx : s.levelHeld u x) (hrdy : Bool) {p : CompletionPart}
    (hwaits : waitsAs p ∈ x.flight.parts) : s.levelHeld u ((x.without p).runPart hrdy p) := by
  obtain ⟨hgrade, hsettings, hlevel⟩ := hx
  have hparts : ∀ q, q ∉ x.flight.parts → q ∉ ((x.without p).runPart hrdy p).flight.parts := by
    intro q hq
    rw [State.runPart_waiting]
    exact fun h => hq (List.mem_of_mem_filter h)
  have hp : p ≠ .settings := by
    rintro rfl
    exact hsettings hwaits
  refine ⟨fun v => hparts _ (hgrade v), hparts _ hsettings, ?_⟩
  rcases (x.without p).runPart_slots_cases hrdy hp with e | ⟨v, y, hv, hmove, e⟩ <;> rw [e]
  · exact hlevel
  · rw [Table.get_set]
    split
    · next huv =>
      subst huv
      cases hmove with
      | graded => exact absurd hwaits (hgrade u)
      | _ => exact hlevel
    · exact hlevel

/-- Settles O50: no effect moves a level, and a cycle completion takes no grading, as without the apply none waits. -/
theorem levelsMoveOnlyAtAnEpochCompletion : Obligations.LevelsMoveOnlyAtAnEpochCompletion := by
  unfold Obligations.LevelsMoveOnlyAtAnEpochCompletion
  intro c s t u hflight h hmoved
  rcases exec_cases h with h | ⟨x, hrdy, ps, hx, rfl⟩
  · have hslot := h.slot u
    generalize t.slots.get u = y at hslot hmoved
    cases hslot with
    | reset rate fnom => exact .inr ⟨rate, fnom, rfl⟩
    | _ => exact absurd rfl hmoved
  · have hheld (hbegin : s.levelHeld u x) :=
      (State.takeParts_keeps (fun y p hy hwaits _ => State.runPart_levelHeld hy hrdy hwaits) ps x hbegin).level
    cases hx with
    | delivered => exact absurd (hheld ⟨by simp [cycleParts], by simp [cycleParts], rfl⟩) hmoved
    | cycleGoesOn _ _ _ hopen =>
      obtain ⟨-, -, hgrade, hlevels, -⟩ := hflight
      exact absurd (hheld ⟨fun v hv => hopen (hlevels (hgrade v hv).2), hopen, rfl⟩) hmoved
    | raised order whole hrdy => exact .inl ⟨order, whole, hrdy, rfl⟩
    | epochGoesOn order whole hrdy => exact .inl ⟨order, whole, hrdy, rfl⟩

/-! ## What the parts of a completion do to Capture Memory and the link -/

theorem State.startCycle_capture (number : Count32) (g : CycleStart) (s : State) :
    ∃ f, (s.startCycle number g).capture = { s.capture with current := f } := by
  unfold State.startCycle
  dsimp only
  split <;> exact ⟨_, rfl⟩

section
variable {P : Capture → Link → Prop} {hrdy : Bool} {s : State}

theorem State.takeTriggers_memory
    (htrigger : ∀ (x : State) (tr : Trigger), x.applied = s.applied → P x.capture x.link →
      P (x.takeTrigger hrdy tr).capture (x.takeTrigger hrdy tr).link) (trs : List Trigger) :
    ∀ x : State, x.applied = s.applied → P x.capture x.link →
      P (x.takeTriggers hrdy trs).capture (x.takeTriggers hrdy trs).link := by
  induction trs with
  | nil => exact fun _ _ h => h
  | cons tr trs ih =>
    intro x hx h
    exact ih (x.takeTrigger hrdy tr) (by rw [State.applied, State.takeTrigger_store]; exact hx) (htrigger x tr hx h)

/-- Capture Memory and the link are reached by triggers, by the completed frame and by the opening of the next one. -/
theorem State.runPart_memory
    (htrigger : ∀ (x : State) (tr : Trigger), x.applied = s.applied → P x.capture x.link →
      P (x.takeTrigger hrdy tr).capture (x.takeTrigger hrdy tr).link)
    (hframe : ∀ x : State, x.applied = s.applied → P x.capture x.link →
      P (x.takeFrame hrdy).capture (x.takeFrame hrdy).link)
    (hopen : ∀ (c : Capture) (l : Link) (f : Option OpenFrame), P c l → P { c with current := f } l)
    (h : P s.capture s.link) (p : CompletionPart) : P (s.runPart hrdy p).capture (s.runPart hrdy p).link := by
  cases p with
  | steps => exact State.takeTriggers_memory htrigger _ (s.setFlight _) rfl h
  | levels => exact State.takeTriggers_memory htrigger _ (s.setFlight _) rfl h
  | nextStep =>
    rcases s.takeNextStep_cases hrdy with e | ⟨tr, rest, -, e⟩ <;> rw [State.runPart, e]
    · exact h
    · exact htrigger (s.setFlight _) tr rfl h
  | nextLevel =>
    rcases s.takeNextLevel_cases hrdy with e | ⟨tr, rest, -, e⟩ <;> rw [State.runPart, e]
    · exact h
    · exact htrigger (s.setFlight _) tr rfl h
  | frame => exact hframe s rfl h
  | start =>
    rw [State.runPart, State.startNext]
    split
    · exact h
    · obtain ⟨f, e⟩ := State.startCycle_capture (s.scanner.cycleNumber + 1) _ (s.setFlight { s.flight with given := none })
      rw [e, State.startCycle_link]
      exact hopen _ _ f h
  | _ => simpa [State.runPart] using h

end

/-! ## While TRIGGERED or FROZEN no frame is overwritten (R117) -/

/-- Since `c`, in TRIGGERED or FROZEN and with no pending hold, frames have at most been appended. -/
structure Capture.framesStand (c x : Capture) : Prop where
  state : x.state = .triggered ∨ x.state = .frozen
  hold : x.holdPending = false
  ring : ∃ more, x.ring = c.ring ++ more
  record : x.record = c.record

theorem Capture.framesStand_takeFrame {c x : Capture} (h : c.framesStand x) : c.framesStand x.takeFrame := by
  have ⟨hstate, hhold, ⟨more, hring⟩, hrecord⟩ := h
  rcases x.takeFrame_cases with ⟨-, e⟩ | ⟨f, -, ⟨-, e⟩ | ⟨-, harmed, -⟩ | ⟨-, -, e⟩ | ⟨-, -, e⟩⟩
  · rw [e]
    exact h
  · rw [e]
    exact ⟨hstate, hhold, ⟨more, hring⟩, hrecord⟩
  · simp [harmed] at hstate
  · rw [e]
    refine ⟨?_, hhold, ⟨more ++ [f.frame], by simp [Capture.append, hring]⟩, hrecord⟩
    unfold Capture.append
    dsimp only
    split
    · exact .inr rfl
    · exact .inl rfl
  · rw [e]
    exact ⟨hstate, hhold, ⟨more, hring⟩, hrecord⟩

theorem State.framesStand_takeFrame {c : Capture} {x : State} {hrdy : Bool} (h : c.framesStand x.capture) :
    c.framesStand (x.takeFrame hrdy).capture := by
  have hframe := Capture.framesStand_takeFrame h
  unfold State.takeFrame
  simp only [hframe.hold, Bool.false_eq_true, if_false, State.notifyAll_capture, State.setCapture_capture]
  exact hframe

theorem State.framesStand_takeTrigger {c : Capture} {x : State} {hrdy : Bool} (tr : Trigger)
    (h : c.framesStand x.capture) : c.framesStand (x.takeTrigger hrdy tr).capture := by
  have ⟨hstate, hhold, hring, hrecord⟩ := h
  rcases x.takeTrigger_cases hrdy tr with ⟨hs, -⟩ | ⟨hs, -⟩ | ⟨hs, -⟩ | ⟨-, -, e⟩ | ⟨-, -, e⟩
  · simp [hs] at hstate
  · simp [hs] at hstate
  · simp [hs] at hstate
  · rw [e]
    exact ⟨hstate, hhold, hring, hrecord⟩
  · rw [e]
    exact ⟨hstate, hhold, hring, hrecord⟩

theorem State.endReply_capture {s : State} (h : s.restartInService = false) : s.endReply.capture = s.capture := by
  simp [State.endReply, h]

theorem Taken.framesStand {s x : State} {k : RequestKind} {a : Answer} (h : Taken s k x a)
    (hstate : s.capture.state = .triggered ∨ s.capture.state = .frozen) :
    x.capture = s.capture ∨ k = .captureRelease := by
  cases h with
  | rearmed => exact .inr rfl
  | released => exact .inr rfl
  | triggered h => simp [h] at hstate
  | revoked h => simp [h] at hstate
  | pended h => simp [h] at hstate
  | acknowledged => exact .inl (State.acknowledgeSlots_capture ..)
  | silenced => exact .inl (State.reformHorn_capture ..)
  | _ => exact .inl rfl

theorem Effect.framesStand {s t : State} {c : Instr} (h : Effect s c t)
    (hstate : s.capture.state = .triggered ∨ s.capture.state = .frozen) :
    (t.capture.ring = s.capture.ring ∧ t.capture.record = s.capture.record) ∨
      (∃ tag p hrdy, c = .captureRelease tag p hrdy) ∨ (c = .replySent ∧ s.restartInService = true) ∨
      ∃ rate fnom, c = .powerOnReset rate fnom := by
  have hstands (e : t.capture = s.capture) : t.capture.ring = s.capture.ring ∧ t.capture.record = s.capture.record := by
    rw [e]
    exact ⟨rfl, rfl⟩
  cases h with
  | reset rate fnom => exact .inr (.inr (.inr ⟨rate, fnom, rfl⟩))
  | started _ =>
    obtain ⟨f, e⟩ := State.startCycle_capture s.scanner.cycleNumber (s.tracker.cycleStart s.time.fnom)
      (s.setTime { s.time with phase := .running })
    left
    rw [e]
    exact ⟨rfl, rfl⟩
  | crossed => exact .inl (hstands (State.moveTracker_capture ..))
  | expired => exact .inl (hstands (State.moveTracker_capture ..))
  | beat ackb =>
    obtain ⟨_, _, _, e⟩ := s.beat_frame ackb
    exact .inl (hstands (by rw [e]))
  | framed _ r bs =>
    obtain ⟨_, e⟩ := State.handFrame_eq bs (s.setLink { s.link with receiver := r, byteTicks := 0 })
    exact .inl (hstands (by rw [e]; rfl))
  | replyEnded _ =>
    cases hrestart : s.restartInService with
    | false => exact .inl (hstands (State.endReply_capture hrestart))
    | true => exact .inr (.inr (.inl ⟨rfl, rfl⟩))
  | served k tag p hrdy x a _ hx _ =>
    rcases hx.framesStand (s := s.unoccupied) hstate with e | rfl
    · exact .inl (hstands ((State.responded_capture ..).trans e))
    · exact .inr (.inl ⟨tag, p, hrdy, rfl⟩)
  | _ => exact .inl ⟨rfl, rfl⟩

/-- Settles O51: a trigger is only missed there and a frame at most appended, and of the requests only CAPTURE RELEASE
reaches the ring. -/
theorem capturedFramesAreNotOverwritten : Obligations.CapturedFramesAreNotOverwritten := by
  unfold Obligations.CapturedFramesAreNotOverwritten
  intro c s t h hstate hhold
  rcases exec_cases h with h | ⟨x, hrdy, ps, hx, rfl⟩
  · exact (h.framesStand hstate).imp_left fun ⟨hring, hrecord⟩ => ⟨[], by simpa using hring, hrecord⟩
  · have hbegin : s.capture.framesStand x.capture := by
      have hsame : x.capture = s.capture := by
        cases hx with
        | raised => simp [State.raiseEpoch, State.closeEpoch]
        | _ => rfl
      rw [hsame]
      exact ⟨hstate, hhold, ⟨[], (List.append_nil _).symm⟩, rfl⟩
    have hpart (y : State) (p : CompletionPart) (hy : s.capture.framesStand y.capture) :
        s.capture.framesStand ((y.without p).runPart hrdy p).capture :=
      State.runPart_memory (s := y.without p) (P := fun c _ => s.capture.framesStand c)
        (fun _ tr _ h => State.framesStand_takeTrigger tr h) (fun _ _ h => State.framesStand_takeFrame h)
        (fun _ _ _ h => ⟨h.state, h.hold, h.ring, h.record⟩) hy p
    obtain ⟨-, -, ⟨more, hring⟩, hrecord⟩ := State.takeParts_keeps (P := fun y => s.capture.framesStand y.capture)
      (fun y p hy _ _ => hpart y p hy) ps x hbegin
    exact .inl ⟨more, hring, hrecord⟩

end Sys2Proof.Machine

namespace Sys2Proof.Machine

/-! ## The order of the parts (O60) -/

/-- A completion of which the entries wait, while no cycle is in progress. No run of the part leads here, but every
relation of `Flight.sound` holds. -/
def entriesWithoutCycle : State :=
  { State.reset with
    pending := [.cycleCompletion [.entries] false false]
    time := { State.reset.time with phase := .running }
    flight := { Flight.none with
      parts := [.entries], entries := [{ chan := 0, sum := 0, clip := false, allLow := false, allHigh := false }] } }

/-- What the Conditioner leaves of `entriesWithoutCycle`: with no cycle it takes no entry, and yet its part is taken. -/
def entriesLeftOver : State :=
  { entriesWithoutCycle with pending := [], flight := { entriesWithoutCycle.flight with parts := [] } }

/-- Refutes O60: where no cycle is in progress `takeRecord` leaves the entries that wait, while their part waits no more;
so an entry stands without the part that takes it. -/
theorem not_stepKeepsTheOrderOfParts : ¬ Obligations.StepKeepsTheOrderOfParts := by
  unfold Obligations.StepKeepsTheOrderOfParts
  intro h
  have hsound : entriesWithoutCycle.flight.sound := by
    simp [entriesWithoutCycle, Flight.none, Flight.sound]
  have hstep : step entriesWithoutCycle = .next entriesLeftOver := rfl
  obtain ⟨-, -, -, -, -, -, -, hentries, -⟩ := h _ _ hsound hstep
  simp [entriesLeftOver, entriesWithoutCycle, Flight.none] at hentries

end Sys2Proof.Machine

namespace Sys2Proof.Machine

/-! ## What the horn line reads (R103, R104) -/

theorem highestFlash_eq (slots : Table 8 Slot) : highestFlash slots = (slots.cells.map (·.signal)).foldl
    (fun acc x => if x.state = .flashing then higherOf acc x.flash else acc) none := by
  rw [List.foldl_map]
  rfl

/-- The pattern in use depends on the annunciation records of the slots alone. -/
theorem highestFlash_congr {a b : Table 8 Slot} (h : ∀ u, (a.get u).signal = (b.get u).signal) :
    highestFlash a = highestFlash b := by
  have hcells : a.cells.map (·.signal) = b.cells.map (·.signal) := by
    refine List.ext_getElem (by simp [a.size, b.size]) fun i hi _ => ?_
    have hi' : i < 8 := by simpa [a.size] using hi
    simpa [Table.get] using h ⟨i, hi'⟩
  rw [highestFlash_eq, highestFlash_eq, hcells]

theorem State.hornKey_congr {s t : State} (hsilenced : t.ann.silenced = s.ann.silenced)
    (hsignal : ∀ u, (t.slots.get u).signal = (s.slots.get u).signal) : t.hornKey = s.hornKey := by
  rw [State.hornKey, State.hornKey, hsilenced, highestFlash_congr hsignal]

/-- The tone stays true to its source while the Annunciator, the annunciation records and the patterns stand. -/
theorem State.toneSound.of_same {s t : State} (h : s.toneSound) (hann : t.ann = s.ann)
    (hsignal : ∀ u, (t.slots.get u).signal = (s.slots.get u).signal) (happlied : t.applied = s.applied) :
    t.toneSound := by
  have hkey := State.hornKey_congr (congrArg (·.silenced) hann) hsignal
  simp only [State.toneSound, State.lineSource, hkey, hann, happlied]
  exact h

theorem Tone.edge_source (item : AnnunciatorItem) (t : Tone) : (t.edge item).source = t.source := by
  unfold Tone.edge
  split <;> rfl

theorem State.toneSound_tonePeriod {s : State} (h : s.toneSound) :
    (s.setAnn { s.ann with tone := s.ann.tone.map (Tone.edge s.applied.annunciator) }).toneSound := by
  have hsame : (s.ann.tone.map (Tone.edge s.applied.annunciator)).map (·.source) = s.ann.tone.map (·.source) := by
    simp [Option.map_map, Function.comp_def, Tone.edge_source]
  exact hsame.trans h

theorem State.toneSound_acknowledgeSlots {s : State} (h : s.toneSound) (src : AckSource) (sel : Fin 8 → Bool) :
    (s.acknowledgeSlots src sel).toneSound := by
  unfold State.acknowledgeSlots
  dsimp only
  split
  · exact State.reformHorn_toneSound _ _
  · exact h

theorem State.powerOn_toneSound (rate : BitVec 2) (fnom : Fnom) (q : List Instr) :
    ({ State.powerOn rate fnom with pending := q } : State).toneSound := rfl

theorem Taken.toneSound {s x : State} {k : RequestKind} {a : Answer} (hs : s.toneSound) (h : Taken s k x a) :
    x.toneSound := by
  have happlied := h.applied
  cases h with
  | acknowledged sel => exact State.toneSound_acknowledgeSlots hs _ sel
  | silenced => exact State.reformHorn_toneSound _ _
  | cleared slots hslots =>
    refine hs.of_same rfl (fun u => ?_) happlied
    rcases hslots u with e | ⟨-, e⟩ <;> rw [State.setSlots_slots, e]
  | preset v =>
    refine hs.of_same rfl (fun u => ?_) happlied
    rw [State.modifyThermal, State.setSlots_slots, Table.get_modify]
    split
    · next huv => rw [huv]
    · rfl
  | _ => exact hs.of_same rfl (fun _ => rfl) happlied

theorem Effect.toneSound {s t : State} {c : Instr} (hs : s.toneSound) (h : Effect s c t) : t.toneSound := by
  cases h with
  | reset rate fnom => exact State.powerOn_toneSound rate fnom _
  | started _ => exact hs.of_same (by simp) (fun u => by simp) (by simp [State.applied])
  | crossed => exact hs.of_same (by simp) (fun u => by simp) (by simp [State.applied])
  | expired => exact hs.of_same (by simp) (fun u => by simp) (by simp [State.applied])
  | beat ackb => exact State.reformTone_toneSound _
  | framed _ r bs =>
    obtain ⟨_, e⟩ := State.handFrame_eq bs (s.setLink { s.link with receiver := r, byteTicks := 0 })
    rw [e]
    exact hs.of_same rfl (fun _ => rfl) rfl
  | replyEnded h =>
    have hends := (Effect.replyEnded h).applied
    obtain ⟨_, _, _, _, e⟩ := s.endReply_frame
    rcases hends with happlied | ⟨⟨_, _, hc⟩, -⟩
    · exact hs.of_same (by rw [e]) (fun u => by rw [e]) happlied
    · cases hc
  | served k tag p hrdy x a _ hx _ =>
    have hserved := hx.toneSound (s := s.unoccupied) hs
    exact hserved.of_same (by simp) (fun u => by simp) (by simp [State.applied])
  | toneEdge => exact State.toneSound_tonePeriod hs
  | _ => exact hs.of_same rfl (fun _ => rfl) rfl

theorem State.runPart_ann {s : State} {hrdy : Bool} {p : CompletionPart} (hp : p ≠ .settings)
    (hhear : ∀ u, p ≠ .annunciate u) : (s.runPart hrdy p).ann = s.ann := by
  cases p with
  | settings => exact absurd rfl hp
  | annunciate u => exact absurd rfl (hhear u)
  | _ => simp [State.runPart]

theorem SlotMove.signal {s : State} {p : CompletionPart} {u : Fin 8} {y : Slot} (h : SlotMove s p u y)
    (hhear : ∀ u, p ≠ .annunciate u) : y.signal = (s.slots.get u).signal := by
  cases h with
  | heard => exact absurd rfl (hhear u)
  | _ => rfl

/-- Only the Annunciator's own part and the apply reach an annunciation record (R85, R95). -/
theorem State.runPart_signal {s : State} {hrdy : Bool} {p : CompletionPart} (hp : p ≠ .settings)
    (hhear : ∀ u, p ≠ .annunciate u) (u : Fin 8) :
    ((s.runPart hrdy p).slots.get u).signal = (s.slots.get u).signal := by
  rcases s.runPart_slots_cases hrdy hp with e | ⟨v, y, hv, hmove, e⟩ <;> rw [e]
  rw [Table.get_set]
  split
  · next huv =>
    subst huv
    exact hmove.signal hhear
  · rfl

theorem State.runPart_toneSound {s : State} (hs : s.toneSound) (hrdy : Bool) (p : CompletionPart) :
    (s.runPart hrdy p).toneSound := by
  by_cases hhear : ∃ u, p = .annunciate u
  · obtain ⟨u, rfl⟩ := hhear
    rcases s.hearChange_cases u with ⟨e, -⟩ | ⟨h, -, -, e⟩ <;> rw [State.runPart, e]
    · exact hs.of_same rfl (fun _ => rfl) rfl
    · exact State.reformHorn_toneSound _ _
  · push Not at hhear
    rcases eq_or_ne p .settings with rfl | hp
    · show s.takeEpoch.toneSound
      unfold State.takeEpoch
      split
      · rw [State.applySettings_eq]
        exact State.reformTone_toneSound _
      · exact hs
    · exact hs.of_same (State.runPart_ann hp hhear) (State.runPart_signal hp hhear)
        (congrArg Store.applied (s.runPart_store_of_ne hrdy hp))

theorem State.tick_toneSound {s : State} (h : s.toneSound) : s.tick.toneSound := by
  unfold State.tick
  repeat' split
  all_goals exact h

/-! ## The annunciation records (R91 to R96) -/

section
variable {A n : Level} {x : Signal}

theorem Signal.acknowledge_sound (h : x.sound A n) : (x.acknowledge A n).sound A n := by
  unfold Signal.sound at h
  unfold Signal.acknowledge
  cases hstate : x.state <;> rw [hstate] at h <;> dsimp only at h ⊢
  · simpa [Signal.sound, hstate] using h
  · split
    · next hA => exact ⟨hA, le_refl n, rfl⟩
    · next hA => exact ⟨not_le.mp hA, rfl, rfl⟩
  · simpa [Signal.sound, hstate] using h
  · exact ⟨h.1, h.2, rfl⟩

/-- R92 to R94. -/
theorem Signal.levelChange_sound {new : Level} (hA : 1 ≤ A) (h : x.sound A n) : (x.levelChange A n new).1.sound A new := by
  unfold Signal.sound at h
  unfold Signal.levelChange
  cases hstate : x.state <;> rw [hstate] at h <;> dsimp only at h ⊢
  · split
    · next hnew => exact ⟨hA.trans hnew, le_refl new, rfl⟩
    · next hnew => simpa [Signal.sound, hstate] using ⟨not_le.mp hnew, h.2⟩
  · obtain ⟨hflash, hn, hacked⟩ := h
    split
    · next hraised =>
      simp only [Signal.sound]
      exact ⟨hflash.trans hraised.2.le, le_refl new, hacked⟩
    · next hraised =>
      simp only [Signal.sound, hstate]
      refine ⟨hflash, not_lt.mp fun hlt => hraised ⟨hn.trans_lt hlt, hlt⟩, hacked⟩
  · obtain ⟨hn, hacked, hflash⟩ := h
    split
    · next hbelow => exact ⟨hbelow, hflash⟩
    · next hbelow =>
      split
      · exact ⟨hA.trans (not_lt.mp hbelow), le_refl new, rfl⟩
      · next hraised => simpa [Signal.sound, hstate] using ⟨not_lt.mp hbelow, not_lt.mp hraised, hflash⟩
  · split
    · next hnew => exact ⟨hA.trans hnew, le_refl new, rfl⟩
    · next hnew => simpa [Signal.sound, hstate] using ⟨not_le.mp hnew, h.2⟩

/-- R95. -/
theorem Signal.newA_sound {new : Level} (hnew : 1 ≤ new) (h : x.sound A n) : (x.newA new n).1.sound new n := by
  unfold Signal.sound at h
  unfold Signal.newA
  cases hstate : x.state <;> rw [hstate] at h <;> dsimp only at h ⊢
  · split
    · next hle => exact ⟨hnew.trans hle, le_refl n, rfl⟩
    · next hle => simpa [Signal.sound, hstate] using ⟨not_le.mp hle, h.2⟩
  · simpa [Signal.sound, hstate] using h
  · split
    · next hbelow => exact ⟨hbelow, h.2.2⟩
    · next hbelow => simpa [Signal.sound, hstate] using ⟨not_lt.mp hbelow, h.2⟩
  · split
    · next hle => exact ⟨hnew.trans hle, le_refl n, rfl⟩
    · next hle => simpa [Signal.sound, hstate] using ⟨not_le.mp hle, h.2⟩

theorem Slot.zero_signalSound (hA : 1 ≤ A) : Slot.zero.signal.sound A Slot.zero.grade.level :=
  ⟨lt_of_lt_of_le (by decide) hA, rfl, rfl⟩

end

/-! ## The level as the Annunciator has it (R99) -/

theorem Flight.mem_of_changeOf {f : Flight} {u : Fin 8} {h : LevelChange} (e : f.changeOf u = some h) :
    h ∈ f.changes ∧ h.slot = u := by
  unfold Flight.changeOf at e
  exact ⟨List.mem_of_find?_eq_some e, by simpa using List.find?_some e⟩

theorem Flight.changeOf_none_iff {f : Flight} {u : Fin 8} : f.changeOf u = Option.none ↔ ∀ h ∈ f.changes, h.slot ≠ u := by
  simp [Flight.changeOf, List.find?_eq_none]

theorem Flight.changeOf_append {f : Flight} {h : LevelChange} {u : Fin 8} (hu : h.slot ≠ u) :
    Flight.changeOf { f with changes := f.changes ++ [h] } u = f.changeOf u := by
  simp [Flight.changeOf, List.find?_append, hu]

theorem Flight.changeOf_filter {f : Flight} {u v : Fin 8} (huv : v ≠ u) :
    Flight.changeOf { f with changes := f.changes.filter fun h => h.slot ≠ u } v = f.changeOf v := by
  simp only [Flight.changeOf, List.find?_filter]
  refine List.find?_congr fun h _ => ?_
  by_cases hv : h.slot = v
  · simp [hv, huv]
  · simp [hv]

theorem State.heardLevel_congr {s t : State} {u : Fin 8} (hflight : t.flight.changes = s.flight.changes)
    (hlevel : (t.slots.get u).grade.level = (s.slots.get u).grade.level) : t.heardLevel u = s.heardLevel u := by
  simp only [State.heardLevel, Flight.changeOf, hflight, hlevel]

/-! ## What a completion keeps of the Annunciator (R85, R91, R95) -/

/-- A level change waits only for a slot that has been graded, and with the Annunciator's part of it. -/
structure Flight.changesSound (f : Flight) : Prop where
  grade : ∀ u, .grade u ∈ f.parts → .annunciate u ∈ f.parts
  annunciate : ∀ u, .annunciate u ∈ f.parts → .settings ∈ f.parts
  changes : ∀ h ∈ f.changes, .annunciate h.slot ∈ f.parts ∧ .grade h.slot ∉ f.parts

/-- The Store, the level changes that wait and the annunciation records are sound. -/
structure State.panelSound (s : State) : Prop where
  store : s.store.sound
  flight : s.flight.changesSound
  signals : s.signalsSound

theorem Store.sound.annunciateAt {x : Store} (h : x.sound) : 1 ≤ x.applied.general.annunciateAt := by
  obtain ⟨⟨⟨-, -, -, hA, -⟩, -⟩, -⟩ := h
  exact hA

theorem State.signalsSound.of_same {s t : State} (h : s.signalsSound) (hchanges : t.flight.changes = s.flight.changes)
    (hslots : ∀ u, (t.slots.get u).grade.level = (s.slots.get u).grade.level ∧
      (t.slots.get u).signal = (s.slots.get u).signal) (happlied : t.applied = s.applied) : t.signalsSound := by
  obtain ⟨hnew, hsignal⟩ := h
  rw [State.applied, State.applied] at happlied
  refine ⟨fun h hh => ?_, fun u hu => ?_⟩
  · rw [hchanges] at hh
    rw [hnew h hh, (hslots h.slot).1]
  · rw [State.isDefined, happlied] at hu
    rw [State.heardLevel_congr hchanges (hslots u).1, (hslots u).2, State.applied, happlied]
    exact hsignal u hu

theorem Effect.flight {s t : State} {c : Instr} (h : Effect s c t) : t.flight = s.flight ∨
    (∃ rate fnom, c = .powerOnReset rate fnom) ∧ t.flight = Flight.none := by
  cases h with
  | reset rate fnom => exact .inr ⟨⟨rate, fnom, rfl⟩, rfl⟩
  | started _ => exact .inl (State.startCycle_flight ..)
  | crossed => exact .inl (State.moveTracker_flight ..)
  | expired => exact .inl (State.moveTracker_flight ..)
  | beat ackb => obtain ⟨_, _, _, e⟩ := s.beat_frame ackb; exact .inl (by rw [e])
  | framed _ r bs => obtain ⟨_, e⟩ := State.handFrame_eq bs _; exact .inl (by rw [e]; rfl)
  | replyEnded _ => obtain ⟨_, _, _, _, e⟩ := s.endReply_frame; exact .inl (by rw [e])
  | served k tag p hrdy x a _ hx _ =>
    obtain ⟨-, -, -, hflight, -⟩ := hx.frame
    exact .inl ((State.responded_flight ..).trans hflight)
  | _ => exact .inl rfl

theorem State.signalsSound_of_powerOn {t : State} (hflight : t.flight = Flight.none) {f : Fnom}
    (happlied : t.applied = Settings.powerOn f) : t.signalsSound := by
  refine ⟨fun h hh => ?_, fun u hu => ?_⟩
  · rw [hflight] at hh
    cases hh
  · rw [State.applied] at happlied
    rw [State.isDefined, happlied] at hu
    simp [Settings.powerOn, TransformerItem.powerOn] at hu

/-- What no command but a completion and a power-on reset can do: beyond the link and the blocks that gather, it can
acknowledge. -/
structure State.onlyAcknowledged (s t : State) : Prop where
  flight : t.flight = s.flight
  applied : t.applied = s.applied
  grade : ∀ u, (t.slots.get u).grade = (s.slots.get u).grade
  signal : ∀ u, (t.slots.get u).signal = (s.slots.get u).signal ∨ (t.slots.get u).signal =
    (s.slots.get u).signal.acknowledge s.applied.general.annunciateAt (s.heardLevel u)

theorem Effect.onlyAcknowledged {s t : State} {c : Instr} (h : Effect s c t)
    (hc : ∀ rate fnom, c ≠ .powerOnReset rate fnom) : s.onlyAcknowledged t := by
  have hslot (u : Fin 8) : (t.slots.get u).grade = (s.slots.get u).grade ∧
      ((t.slots.get u).signal = (s.slots.get u).signal ∨ (t.slots.get u).signal =
        (s.slots.get u).signal.acknowledge s.applied.general.annunciateAt (s.heardLevel u)) := by
    have hslot := h.slot u
    generalize t.slots.get u = y at hslot
    cases hslot with
    | reset rate fnom => exact absurd rfl (hc rate fnom)
    | acknowledged => exact ⟨rfl, .inr rfl⟩
    | _ => exact ⟨rfl, .inl rfl⟩
  refine ⟨h.flight.resolve_right ?_, h.applied.resolve_right ?_, fun u => (hslot u).1, fun u => (hslot u).2⟩
  · rintro ⟨⟨rate, fnom, e⟩, -⟩
    exact hc rate fnom e
  · rintro ⟨⟨rate, fnom, e⟩, -⟩
    exact hc rate fnom e

theorem RequestKind.command_ne_powerOnReset (k : RequestKind) (tag : Byte) (p : List Byte) (hrdy : Bool)
    (rate : BitVec 2) (fnom : Fnom) : k.command tag p hrdy ≠ .powerOnReset rate fnom := by
  cases k <;> simp [RequestKind.command]

theorem State.onlyAcknowledged_setLink (s : State) (l : Link) : s.onlyAcknowledged (s.setLink l) :=
  ⟨rfl, rfl, fun _ => rfl, fun _ => .inl rfl⟩

/-- Every command that is no completion resets the part or at most acknowledges. -/
theorem Effect.reset_or {s t : State} {c : Instr} (h : Effect s c t) :
    (∃ rate fnom, t = { State.powerOn rate fnom with pending := s.pending }) ∨ s.onlyAcknowledged t := by
  have hnot := h.onlyAcknowledged
  cases h with
  | reset rate fnom => exact .inl ⟨rate, fnom, rfl⟩
  | stays => exact .inr (State.onlyAcknowledged_setLink s s.link)
  | dropped => exact .inr (State.onlyAcknowledged_setLink s _)
  | received => exact .inr (State.onlyAcknowledged_setLink s _)
  | framed _ r bs =>
    obtain ⟨l, e⟩ := State.handFrame_eq bs (s.setLink { s.link with receiver := r, byteTicks := 0 })
    rw [e]
    exact .inr (State.onlyAcknowledged_setLink s l)
  | served k tag p hrdy => exact .inr (hnot fun rate fnom => k.command_ne_powerOnReset tag p hrdy rate fnom)
  | _ => exact .inr (hnot nofun)

theorem State.signalsSound.of_acknowledged {s t : State} (hs : s.signalsSound) (h : s.onlyAcknowledged t) :
    t.signalsSound := by
  obtain ⟨hflight, happlied, hgrade, hsignal⟩ := h
  obtain ⟨hnew, hsound⟩ := hs
  have hheard (u : Fin 8) : t.heardLevel u = s.heardLevel u :=
    State.heardLevel_congr (by rw [hflight]) (by rw [hgrade u])
  rw [State.applied, State.applied] at happlied
  refine ⟨fun h hh => ?_, fun u hu => ?_⟩
  · rw [hflight] at hh
    rw [hnew h hh, hgrade]
  · rw [State.isDefined, happlied] at hu
    rw [hheard, State.applied, happlied]
    rcases hsignal u with e | e <;> rw [e]
    · exact hsound u hu
    · exact Signal.acknowledge_sound (hsound u hu)

theorem Effect.signalsSound {s t : State} {c : Instr} (hs : s.signalsSound) (h : Effect s c t) : t.signalsSound := by
  rcases h.reset_or with ⟨rate, fnom, rfl⟩ | hack
  · exact State.signalsSound_of_powerOn (f := fnom) rfl rfl
  · exact hs.of_acknowledged hack

theorem Effect.changesSound {s t : State} {c : Instr} (hs : s.flight.changesSound) (h : Effect s c t) :
    t.flight.changesSound := by
  rcases h.flight with hflight | ⟨-, hflight⟩ <;> rw [hflight]
  · exact hs
  · exact ⟨nofun, nofun, nofun⟩

theorem Flight.changesSound_of_sound {f : Flight} (h : f.sound) : f.changesSound := by
  obtain ⟨-, -, hgrade, -, hannunciate, hchanges, -⟩ := h
  exact ⟨fun u hu => (hgrade u hu).1, hannunciate, hchanges⟩

/-- While no apply waits, no level change does. -/
theorem Flight.changesSound.changes_eq_nil {f : Flight} (h : f.changesSound) (hs : .settings ∉ f.parts) :
    f.changes = [] :=
  List.eq_nil_iff_forall_not_mem.mpr fun c hc => hs (h.annunciate c.slot (h.changes c hc).1)

theorem mem_epochParts_chain (u : Fin 8) : .annunciate u ∈ epochParts := by
  revert u
  decide

theorem settings_mem_epochParts : .settings ∈ epochParts := by decide

theorem Begins.panelSound {s x : State} {c : Instr} (hs : s.panelSound) (h : Begins s c x) : x.panelSound := by
  obtain ⟨hstore, hflight, hsignals⟩ := hs
  cases h with
  | delivered _ _ _ c hc hparts =>
    have hnone := hflight.changes_eq_nil (by simp [hparts])
    refine ⟨hstore, ⟨by simp [cycleParts], by simp [cycleParts], by simp [hnone]⟩, ?_⟩
    exact hsignals.of_same rfl (fun _ => ⟨rfl, rfl⟩) rfl
  | raised _ _ _ hopen =>
    have hnone := hflight.changes_eq_nil hopen
    refine ⟨hstore, ⟨fun u _ => ?_, fun u _ => ?_, ?_⟩, hsignals.of_same rfl (fun _ => ⟨rfl, rfl⟩) rfl⟩
    · exact List.mem_append_right _ (mem_epochParts_chain u)
    · exact List.mem_append_right _ settings_mem_epochParts
    · show ∀ h ∈ s.flight.changes, _
      simp [hnone]
  | _ => exact ⟨hstore, hflight, hsignals⟩

/-- Only a grading and the Annunciator reach the level changes that wait (R85). -/
theorem State.runPart_changes {s : State} {hrdy : Bool} {p : CompletionPart} (hgrade : ∀ u, p ≠ .grade u)
    (hhear : ∀ u, p ≠ .annunciate u) : (s.runPart hrdy p).flight.changes = s.flight.changes := by
  cases p with
  | grade u => exact absurd rfl (hgrade u)
  | annunciate u => exact absurd rfl (hhear u)
  | thermal u =>
    simp only [State.runPart, State.stepThermal]
    repeat' split
    all_goals rfl
  | entries => simp only [State.runPart, State.takeRecord]; split <;> simp
  | nextEntry => simp only [State.runPart, State.takeNextEntry]; split <;> simp
  | start => simp only [State.runPart, State.startNext]; split <;> simp
  | count => simp [State.runPart, State.countCompletion]
  | _ => simp [State.runPart]

theorem SlotMove.level {s : State} {p : CompletionPart} {u : Fin 8} {y : Slot} (h : SlotMove s p u y)
    (hgrade : ∀ u, p ≠ .grade u) : y.grade.level = (s.slots.get u).grade.level := by
  cases h with
  | graded => exact absurd rfl (hgrade u)
  | _ => rfl

theorem State.runPart_level {s : State} {hrdy : Bool} {p : CompletionPart} (hp : p ≠ .settings)
    (hgrade : ∀ u, p ≠ .grade u) (u : Fin 8) :
    ((s.runPart hrdy p).slots.get u).grade.level = (s.slots.get u).grade.level := by
  rcases s.runPart_slots_cases hrdy hp with e | ⟨v, y, hv, hmove, e⟩ <;> rw [e]
  rw [Table.get_set]
  split
  · next huv =>
    subst huv
    exact hmove.level hgrade
  · rfl

/-- An apply leaves the annunciation record of every defined slot sound under the new A (R52, R95). -/
theorem Slot.apply_signalSound {old new : Settings} {u : Fin 8} {x : Slot} (hA : 1 ≤ new.general.annunciateAt)
    (hdefined : (new.transformers.get u).defined = true)
    (hx : (old.transformers.get u).defined = true → x.signal.sound old.general.annunciateAt x.grade.level) :
    (new.general.annunciateAt = old.general.annunciateAt →
      (x.apply (slotClass old new u)).signal.sound new.general.annunciateAt (x.apply (slotClass old new u)).grade.level) ∧
    ((x.apply (slotClass old new u)).newA new.general.annunciateAt).signal.sound new.general.annunciateAt
      (x.apply (slotClass old new u)).grade.level := by
  unfold slotClass
  rw [hdefined]
  cases hold : (old.transformers.get u).defined with
  | false =>
    exact ⟨fun _ => Slot.zero_signalSound hA, Signal.newA_sound hA (Slot.zero_signalSound hA)⟩
  | true =>
    have hsound := hx hold
    dsimp only
    split
    all_goals exact ⟨fun e => e ▸ hsound, Signal.newA_sound hA hsound⟩

theorem State.signalsSound_applySettings {s : State} (hstore : s.store.sound) (hnone : s.flight.changes = [])
    (hs : s.signalsSound) : s.applySettings.signalsSound := by
  obtain ⟨-, hsound⟩ := hs
  obtain ⟨channels, slots, ann, e⟩ := s.applySettings_frame
  have hflight : s.applySettings.flight = s.flight := by rw [e]
  have hnew : s.applySettings.applied = s.store.pending := by rw [e]; rfl
  refine ⟨fun h hh => ?_, fun u hu => ?_⟩
  · rw [hflight, hnone] at hh
    cases hh
  · have hA : 1 ≤ s.store.pending.general.annunciateAt := by
      obtain ⟨-, ⟨⟨-, -, -, hA, -⟩, -⟩, -⟩ := hstore
      exact hA
    have hheard (x : State) (hx : x.flight = s.flight) : x.heardLevel u = (x.slots.get u).grade.level :=
      State.heardLevel_of_none x u (Flight.changeOf_none_iff.mpr (by simp [hx, hnone]))
    have hdefined : (s.store.pending.transformers.get u).defined = true := hnew ▸ hu
    have ⟨hsame, hchanged⟩ := Slot.apply_signalSound (x := s.slots.get u) hA hdefined fun h =>
      hheard s rfl ▸ hsound u h
    rw [hheard _ hflight, hnew, State.applySettings_slot]
    dsimp only
    split
    · exact hchanged
    · next h => exact hsame (not_not.mp fun hne => h ⟨Ne.symm hne, hdefined⟩)

section
variable {s : State} {u : Fin 8}

/-- A grading moves the level of its slot alone, and the change waits for the Annunciator (R81, R85). -/
theorem State.gradeOn_signalsSound (hs : s.signalsSound) (hu : ∀ h ∈ s.flight.changes, h.slot ≠ u) (h : Handed) :
    (s.gradeOn u h).signalsSound := by
  have hslot (v : Fin 8) : ((s.gradeOn u h).slots.get v).signal = (s.slots.get v).signal := by
    rw [State.gradeOn_slots, Table.get_set]
    split
    · next huv => rw [huv]
    · rfl
  have hlevel (v : Fin 8) (hv : v ≠ u) : ((s.gradeOn u h).slots.get v).grade.level = (s.slots.get v).grade.level := by
    rw [State.gradeOn_slots, Table.get_set_ne _ _ hv]
  have hgraded : ((s.gradeOn u h).slots.get u).grade.level = (s.gradeAfter u h).level := by
    rw [State.gradeOn_slots, Table.get_set_self]
  rcases s.gradeOn_cases u h with ⟨hkept, e⟩ | ⟨hmoved, e⟩
  · refine hs.of_same (by rw [e]; rfl) (fun v => ⟨?_, hslot v⟩) (by rw [e]; rfl)
    rcases eq_or_ne v u with rfl | hv
    · exact hgraded.trans hkept
    · exact hlevel v hv
  · obtain ⟨hnew, hsound⟩ := hs
    have hchanges : (s.gradeOn u h).flight.changes =
        s.flight.changes ++ [{ slot := u, old := (s.slots.get u).grade.level, new := (s.gradeAfter u h).level }] := by
      rw [e]
      rfl
    have happlied : (s.gradeOn u h).store.applied = s.store.applied := by
      rw [e]
      rfl
    have hheard (v : Fin 8) : (s.gradeOn u h).heardLevel v = s.heardLevel v := by
      rcases eq_or_ne v u with rfl | hv
      · have hnone : s.flight.changeOf v = none := Flight.changeOf_none_iff.mpr hu
        have hsome : (s.gradeOn v h).flight.changeOf v =
            some { slot := v, old := (s.slots.get v).grade.level, new := (s.gradeAfter v h).level } := by
          unfold Flight.changeOf at hnone ⊢
          rw [hchanges, List.find?_append, hnone]
          simp
        rw [State.heardLevel_of_some _ _ _ hsome, State.heardLevel_of_none _ _ hnone]
      · have hsame : (s.gradeOn u h).flight.changeOf v = s.flight.changeOf v := by
          unfold Flight.changeOf
          rw [hchanges, List.find?_append]
          simp [hv.symm]
        simp only [State.heardLevel, hsame, hlevel v hv]
    refine ⟨fun c hc => ?_, fun v hv => ?_⟩
    · rw [hchanges, List.mem_append, List.mem_singleton] at hc
      rcases hc with hc | rfl
      · rw [hlevel _ (hu c hc)]
        exact hnew c hc
      · exact hgraded.symm
    · rw [State.isDefined, happlied] at hv
      rw [hheard, hslot, State.applied, happlied]
      exact hsound v hv

theorem State.gradeSlot_signalsSound (hs : s.signalsSound) (hu : ∀ h ∈ s.flight.changes, h.slot ≠ u) :
    (s.gradeSlot u).signalsSound := by
  unfold State.gradeSlot
  dsimp only
  repeat' split
  · exact State.gradeOn_signalsSound
      (s := s.setFlight { s.flight with handed := s.flight.handed.filter fun h => h.slot ≠ u }) hs hu _
  all_goals exact hs

/-- What the levels that the Annunciator has become once it has taken the change of slot `u`, if one waited. -/
theorem State.heardLevel_of_heard {x : State}
    (hx : x.flight = { s.flight with changes := s.flight.changes.filter fun h => h.slot ≠ u })
    (hlevel : ∀ v, (x.slots.get v).grade.level = (s.slots.get v).grade.level) (v : Fin 8) :
    x.heardLevel v = if v = u then (s.slots.get u).grade.level else s.heardLevel v := by
  split
  · next huv =>
    subst huv
    rw [State.heardLevel_of_none _ _ (Flight.changeOf_none_iff.mpr (by simp [hx])), hlevel]
  · next huv => simp only [State.heardLevel, hx, Flight.changeOf_filter huv, hlevel]

theorem State.hearChange_flight (s : State) (u : Fin 8) : (s.hearChange u).flight =
    { s.flight with changes := s.flight.changes.filter fun h => h.slot ≠ u } := by
  rcases s.hearChange_cases u with ⟨e, -⟩ | ⟨h, -, -, e⟩ <;> rw [e]
  · rfl
  · exact State.annunciate_flight ..

/-- The Annunciator's taking of a change leaves the record sound at the new level, which is the live level (R85). -/
theorem State.hearChange_signalsSound (hA : 1 ≤ s.applied.general.annunciateAt) (hs : s.signalsSound) :
    (s.hearChange u).signalsSound := by
  obtain ⟨hnew, hsound⟩ := hs
  have hlevel (v : Fin 8) : ((s.hearChange u).slots.get v).grade.level = (s.slots.get v).grade.level := by
    rcases s.hearChange_cases u with ⟨e, -⟩ | ⟨h, -, -, e⟩ <;> rw [e]
    · rfl
    · rw [State.annunciate_slots, Table.get_set]
      split
      · next huv => rw [huv]; rfl
      · rfl
  have hflight := s.hearChange_flight u
  have hheard := State.heardLevel_of_heard hflight hlevel
  refine ⟨fun h hh => ?_, fun v hv => ?_⟩
  · rw [hflight] at hh
    rw [hlevel]
    exact hnew h (List.mem_of_mem_filter hh)
  · have hv' : s.isDefined v = true := by rwa [State.isDefined, State.hearChange_store] at hv
    rw [hheard, State.applied, State.hearChange_store]
    rcases s.hearChange_cases u with ⟨e, hnone⟩ | ⟨h, hchange, -, e⟩ <;> rw [e]
    · split
      · next huv =>
        subst huv
        have hnone := hnone.resolve_right (by simp [hv'])
        exact State.heardLevel_of_none s v hnone ▸ hsound v hv'
      · exact hsound v hv'
    · rw [State.annunciate_slots, Table.get_set]
      split
      · next huv =>
        subst huv
        obtain ⟨hmem, hslot⟩ := Flight.mem_of_changeOf hchange
        have hlive : h.new = (s.slots.get v).grade.level := hslot ▸ hnew h hmem
        rw [← hlive]
        exact Signal.levelChange_sound hA (State.heardLevel_of_some s v h hchange ▸ hsound v hv')
      · exact hsound v hv'

end

theorem State.runPart_signalsSound {x : State} {hrdy : Bool} {p : CompletionPart} (hx : x.panelSound)
    (hwaits : waitsAs p ∈ x.flight.parts) (hfollows : ∀ q ∈ mustFollow p, q ∉ x.flight.parts) :
    ((x.without p).runPart hrdy p).signalsSound := by
  obtain ⟨hstore, hflight, hsignals⟩ := hx
  cases p with
  | grade u =>
    refine State.gradeSlot_signalsSound (s := x.without _) hsignals fun h hh e => ?_
    exact (hflight.changes h hh).2 (e ▸ hwaits)
  | annunciate u => exact State.hearChange_signalsSound (s := x.without _) hstore.annunciateAt hsignals
  | settings =>
    show (x.without .settings).takeEpoch.signalsSound
    unfold State.takeEpoch
    split
    · refine State.signalsSound_applySettings (s := x.without .settings) hstore ?_ hsignals
      refine List.eq_nil_iff_forall_not_mem.mpr fun c hc => hfollows (.annunciate c.slot) ?_ (hflight.changes c hc).1
      simp [mustFollow]
    · exact hsignals
  | _ =>
    refine State.signalsSound.of_same (s := x) hsignals ?_ (fun v => ⟨?_, ?_⟩) ?_
    · exact State.runPart_changes (s := x.without _) (by simp) (by simp)
    · exact State.runPart_level (s := x.without _) (by simp) (by simp) v
    · exact State.runPart_signal (s := x.without _) (by simp) (by simp) v
    · exact congrArg Store.applied ((x.without _).runPart_store_of_ne hrdy (by simp))

/-- What a grading can hand on to the Annunciator (R85). -/
theorem State.gradeOn_changes {s : State} {u : Fin 8} {h : Handed} {c : LevelChange}
    (hc : c ∈ (s.gradeOn u h).flight.changes) : c ∈ s.flight.changes ∨ c.slot = u := by
  rcases s.gradeOn_cases u h with ⟨-, e⟩ | ⟨-, e⟩ <;> rw [e] at hc
  · exact .inl hc
  · rcases List.mem_append.mp (show c ∈ s.flight.changes ++ [_] from hc) with hc | hc
    · exact .inl hc
    · rw [List.mem_singleton.mp hc]
      exact .inr rfl

theorem State.gradeSlot_changes {s : State} {u : Fin 8} {c : LevelChange} (hc : c ∈ (s.gradeSlot u).flight.changes) :
    c ∈ s.flight.changes ∨ c.slot = u := by
  unfold State.gradeSlot at hc
  dsimp only at hc
  split at hc
  · split at hc
    · exact State.gradeOn_changes
        (s := s.setFlight { s.flight with handed := s.flight.handed.filter fun h => h.slot ≠ u }) hc
    · exact .inl hc
  · exact .inl hc

/-- The changes that wait after a part are those that waited before it but the one it takes, and the one it hands on. -/
theorem State.runPart_changes_cases {s : State} {hrdy : Bool} {p : CompletionPart} {c : LevelChange}
    (hc : c ∈ (s.runPart hrdy p).flight.changes) : (c ∈ s.flight.changes ∧ p ≠ .annunciate c.slot) ∨ p = .grade c.slot := by
  cases p with
  | annunciate u =>
    rw [State.runPart, State.hearChange_flight] at hc
    obtain ⟨hmem, hne⟩ := List.mem_filter.mp hc
    exact .inl ⟨hmem, fun e => by simp_all⟩
  | grade u =>
    rcases State.gradeSlot_changes hc with hc | rfl
    · exact .inl ⟨hc, nofun⟩
    · exact .inr rfl
  | _ =>
    rw [State.runPart_changes (by simp) (by simp)] at hc
    exact .inl ⟨hc, nofun⟩

theorem State.runPart_changesSound {x : State} {hrdy : Bool} {p : CompletionPart} (hx : x.flight.changesSound)
    (hwaits : waitsAs p ∈ x.flight.parts) (hfollows : ∀ q ∈ mustFollow p, q ∉ x.flight.parts) :
    ((x.without p).runPart hrdy p).flight.changesSound := by
  obtain ⟨hgrade, hannunciate, hchanges⟩ := hx
  have hmem (q : CompletionPart) : q ∈ ((x.without p).runPart hrdy p).flight.parts ↔ q ∈ x.flight.parts ∧ q ≠ p :=
    State.mem_runPart
  refine ⟨fun u hu => ?_, fun u hu => ?_, fun c hc => ?_⟩
  · have hwaiting := ((hmem _).mp hu).1
    refine (hmem _).mpr ⟨hgrade u hwaiting, ?_⟩
    rintro rfl
    exact hfollows (.grade u) (by simp [mustFollow]) hwaiting
  · have hwaiting := ((hmem _).mp hu).1
    refine (hmem _).mpr ⟨hannunciate u hwaiting, ?_⟩
    rintro rfl
    exact hfollows (.annunciate u) (by simp [mustFollow]) hwaiting
  · rcases State.runPart_changes_cases hc with ⟨hc, hp⟩ | rfl
    · obtain ⟨ha, hg⟩ := hchanges c hc
      exact ⟨(hmem _).mpr ⟨ha, hp.symm⟩, fun h => hg ((hmem _).mp h).1⟩
    · exact ⟨(hmem _).mpr ⟨hgrade _ hwaits, nofun⟩, fun h => ((hmem _).mp h).2 rfl⟩

/-- Settles O58: every command leaves the line formed anew or as it was; an acknowledgement, a level change and an apply
each keep an annunciation record sound, and a grading leaves the level that the Annunciator has as it was. -/
theorem stepKeepsTheAnnunciator : Obligations.StepKeepsTheAnnunciator := by
  unfold Obligations.StepKeepsTheAnnunciator
  refine ⟨fun s t hs h => ?_, fun s t hstore hflight hsignals h => ?_⟩
  · exact step_keeps (P := State.toneSound) (fun _ _ h => h) (fun _ => State.tick_toneSound)
      (fun _ _ _ hs h => h.toneSound hs) (fun _ _ _ hs h => by cases h <;> exact hs)
      (fun hrdy x p hx _ _ => State.runPart_toneSound (s := x.without p) hx hrdy p) hs h
  · have ht : t.panelSound := by
      refine step_keeps (P := State.panelSound) (fun _ _ h => ⟨h.store, h.flight, h.signals⟩) (fun s hs => ?_)
        (fun s c t hs h => ⟨h.storeSound hs.store, h.changesSound hs.flight, h.signalsSound hs.signals⟩)
        (fun s c x hs h => h.panelSound hs) (fun hrdy x p hx hwaits hfollows =>
          ⟨State.runPart_storeSound (s := x.without p) hx.store hrdy p,
            State.runPart_changesSound hx.flight hwaits hfollows, State.runPart_signalsSound hx hwaits hfollows⟩)
        ⟨hstore, Flight.changesSound_of_sound hflight, hsignals⟩ h
      obtain ⟨hstore, hflight, hsignals⟩ := hs
      unfold State.tick
      repeat' split
      all_goals exact ⟨hstore, hflight, hsignals⟩
    exact ht.signals

end Sys2Proof.Machine

namespace Sys2Proof.Machine

/-! ## Capture Memory (R114 to R129) -/

section
variable {c : Capture}

theorem newest_length (n : Nat) (ring : List Frame) : (newest n ring).length = min ring.length n := by
  simp [newest]
  omega

/-- R120. -/
theorem Capture.trigger_sound {depth : Nat} (hc : c.sound) (hdepth : depth ≤ 47)
    (hstate : c.state = .armed ∨ c.state = .held) (tr : Trigger) :
    Capture.sound { c.trigger depth tr with holdPending := false } := by
  obtain ⟨hring, -, -, -, hidle, -, -, -⟩ := hc
  obtain ⟨-, hmissed, -⟩ := hidle hstate
  refine ⟨?_, hdepth, ?_, ?_, ?_, ?_, ?_, ?_⟩ <;>
    simp only [Capture.trigger, newest_length, hmissed, reduceCtorEq, false_or, false_implies, forall_true_left,
      Bool.false_eq_true]
  · omega
  · omega
  · omega
  · exact ⟨Option.some_ne_none _, by omega, by omega⟩

/-- R122. -/
theorem Capture.miss_sound (hc : c.sound) (hstate : c.state = .triggered ∨ c.state = .frozen) : c.miss.sound := by
  obtain ⟨hring, hdepth, hkept, -, -, htriggered, hfrozen, hhold⟩ := hc
  refine ⟨hring, hdepth, hkept, Nat.min_le_left _ _, fun h => ?_, htriggered, hfrozen, hhold⟩
  have h' : c.state = .armed ∨ c.state = .held := h
  rcases hstate with e | e <;> simp [e] at h'

theorem Capture.sound.of_current {x : Capture} (hx : x.sound) (f : Option OpenFrame) :
    Capture.sound { x with current := f } := hx

/-- R115 to R118. -/
theorem Capture.takeFrame_sound (hc : c.sound) : c.takeFrame.sound := by
  rcases c.takeFrame_cases with ⟨-, e⟩ | ⟨f, -, ⟨-, e⟩ | ⟨-, harmed, e⟩ | ⟨-, htrig, e⟩ | ⟨-, -, e⟩⟩ <;> rw [e]
  · exact hc
  · exact hc
  · obtain ⟨-, hdepth, hkept, hmissed, hidle, -, -, hhold⟩ := hc
    refine ⟨?_, hdepth, hkept, hmissed, hidle, ?_, ?_, hhold⟩
    · simp only [Capture.write, newest_length]
      omega
    · simp [Capture.write, harmed]
    · simp [Capture.write, harmed]
  · obtain ⟨hring, hdepth, hkept, hmissed, -, htriggered, -, hhold⟩ := hc
    obtain ⟨hrecord, hpost, hlength⟩ := htriggered htrig
    have hlast : c.post - 1 = 0 ∨ 0 < c.post - 1 := by omega
    have hnohold : c.holdPending ≠ true := fun h => by simp [hhold h] at htrig
    rcases hlast with hlast | hlast
    · simp [Capture.append, Capture.sound, hlast, hrecord, hnohold]
      omega
    · simp [Capture.append, Capture.sound, hlast.ne', hrecord, hnohold]
      omega
  · exact hc

end

/-! ## The request in service (R156 to R160) -/

/-- Whether a reply to the request in service is ready or being sent, and whether that request holds, are as the
transmitter and Capture Memory say. -/
theorem State.linkSound.of_same {s t : State} (h : s.linkSound) (htx : t.link.tx = s.link.tx)
    (hservice : t.link.service = s.link.service) (hhold : t.capture.holdPending = s.capture.holdPending) :
    t.linkSound := by
  simp only [State.linkSound, htx, hservice, hhold]
  exact h

/-- A part that can take a request sends no reply and has no hold pending. -/
theorem State.linkSound.of_takesRequest {s : State} (h : s.linkSound) (hs : s.takesRequest) :
    s.link.tx = .idle ∧ s.capture.holdPending = false := by
  obtain ⟨htx, hhold⟩ := h
  obtain ⟨-, hentered⟩ := hs
  refine ⟨?_, Bool.eq_false_iff.mpr fun e => ?_⟩
  · by_contra hne
    obtain ⟨r, hr, hstage⟩ := htx.mp hne
    simp [hentered r hr] at hstage
  · obtain ⟨r, hr, hstage⟩ := hhold.mp e
    simp [hentered r hr] at hstage

theorem State.linkSound_replied {x : State} (hhold : x.capture.holdPending = false) {stage : Stage}
    (hstage : stage = .answered ∨ stage = .restarting) (kind tag : Byte) (p : List Byte) (status : ReplyStatus)
    (body : List Byte) (hrdy : Bool) : (x.replied kind tag p stage status body hrdy).linkSound := by
  rcases hstage with rfl | rfl <;> cases hrdy <;> simp [State.linkSound, State.replied, hhold]

theorem State.linkSound_holding {x : State} (htx : x.link.tx = .idle) (hhold : x.capture.holdPending = true)
    (kind tag : Byte) (p : List Byte) :
    (x.setLink { x.link with service := some { kind := kind, tag := tag, payload := p, stage := .holding } }).linkSound := by
  simp [State.linkSound, htx, hhold]

theorem State.linkSound_free {x : State} (htx : x.link.tx = .idle) (hhold : x.capture.holdPending = false)
    (hservice : ∀ r, x.link.service = some r → r.stage = .entered) : x.linkSound := by
  refine ⟨⟨fun h => absurd htx h, fun ⟨r, hr, hstage⟩ => ?_⟩, ⟨fun h => ?_, fun ⟨r, hr, hstage⟩ => ?_⟩⟩
  · simp [hservice r hr] at hstage
  · simp [hhold] at h
  · simp [hservice r hr] at hstage

/-- An answer to a request that holds ends its hold (R126). -/
theorem State.linkSound_answer_hold {x : State} {r : Service} (hr : x.link.service = some r)
    (hhold : x.capture.holdPending = false) (status : ReplyStatus) (body : List Byte) (hrdy : Bool) :
    (x.answer status body hrdy).linkSound := by
  have hr' : x.link.service = some { kind := r.kind, tag := r.tag, payload := r.payload, stage := r.stage } := hr
  rw [State.answer, State.answerTo_eq _ _ _ _ _ _ _ _ _ hr']
  exact State.linkSound_replied hhold (.inl rfl) ..

/-! ## Capture Memory and the request in service together -/

/-- Capture Memory and the link as each says of the other. -/
def memorySound (c : Capture) (l : Link) : Prop :=
  c.sound ∧ (l.tx ≠ .idle ↔ ∃ r, l.service = some r ∧ (r.stage = .answered ∨ r.stage = .restarting)) ∧
    (c.holdPending = true ↔ ∃ r, l.service = some r ∧ r.stage = .holding)

theorem State.memorySound_iff {s : State} : memorySound s.capture s.link ↔ s.capture.sound ∧ s.linkSound := Iff.rfl

theorem Store.sound.preDepth {x : Store} (h : x.sound) : x.applied.general.preDepth ≤ 47 := by
  obtain ⟨⟨⟨-, -, -, -, hdepth⟩, -⟩, -⟩ := h
  exact hdepth

theorem Capture.sound.hold {c : Capture} (h : c.sound) (hstate : c.state ≠ .armed) : c.holdPending = false := by
  obtain ⟨-, -, -, -, -, -, -, hhold⟩ := h
  exact Bool.eq_false_iff.mpr fun e => hstate (hhold e)

theorem Capture.trigger_of_no_hold {c : Capture} (h : c.holdPending = false) (depth : Nat) (tr : Trigger) :
    ({ c.trigger depth tr with holdPending := false } : Capture) = c.trigger depth tr := by
  simp [Capture.trigger, h]

theorem State.takeTrigger_sound {s : State} (hdepth : s.applied.general.preDepth ≤ 47) (hcapture : s.capture.sound) (hlink : s.linkSound)
    (hrdy : Bool) (tr : Trigger) : (s.takeTrigger hrdy tr).capture.sound ∧ (s.takeTrigger hrdy tr).linkSound := by
  have htaken (hstate : s.capture.state = .armed ∨ s.capture.state = .held) :=
    Capture.trigger_sound hcapture hdepth hstate tr
  rcases s.takeTrigger_cases hrdy tr with ⟨hstate, hhold, e⟩ | ⟨hstate, hhold, e⟩ | ⟨hstate, e⟩ | ⟨hstate, -, e⟩ |
    ⟨hstate, -, e⟩ <;> rw [e]
  · exact ⟨Capture.trigger_of_no_hold hhold _ tr ▸ htaken (.inl hstate), hlink.of_same rfl rfl rfl⟩
  · obtain ⟨r, hr, -⟩ := hlink.2.mp hhold
    refine ⟨by rw [State.answer_capture]; exact htaken (.inl hstate), ?_⟩
    exact State.linkSound_answer_hold (x := s.setCapture
      { s.capture.trigger s.applied.general.preDepth tr with holdPending := false }) hr rfl ..
  · have hhold := hcapture.hold (by simp [hstate])
    exact ⟨Capture.trigger_of_no_hold hhold _ tr ▸ htaken (.inr hstate), hlink.of_same rfl rfl rfl⟩
  · exact ⟨Capture.miss_sound hcapture hstate, hlink.of_same rfl rfl rfl⟩
  · exact ⟨Capture.miss_sound hcapture hstate, hlink.of_same rfl rfl rfl⟩

theorem Capture.takeFrame_holdPending (c : Capture) : c.takeFrame.holdPending = c.holdPending := by
  rcases c.takeFrame_cases with ⟨-, e⟩ | ⟨f, -, ⟨-, e⟩ | ⟨-, -, e⟩ | ⟨-, -, e⟩ | ⟨-, -, e⟩⟩ <;> rw [e] <;> rfl

/-- R126: a hold is granted in ARMED, where nothing of a capture is kept. -/
theorem Capture.grant_sound {c : Capture} (hc : c.sound) (hhold : c.holdPending = true) :
    Capture.sound { c with state := .held, holdPending := false } := by
  obtain ⟨hring, hdepth, hkept, hmissed, hidle, -, -, harmed⟩ := hc
  exact ⟨hring, hdepth, hkept, hmissed, fun _ => hidle (.inl (harmed hhold)), nofun, nofun, nofun⟩

theorem State.takeFrame_sound {s : State} (hcapture : s.capture.sound) (hlink : s.linkSound) (hrdy : Bool) :
    (s.takeFrame hrdy).capture.sound ∧ (s.takeFrame hrdy).linkSound := by
  have hframe := Capture.takeFrame_sound hcapture
  have hsame := s.capture.takeFrame_holdPending
  unfold State.takeFrame
  dsimp only
  split
  · next hhold =>
    obtain ⟨r, hr, -⟩ := hlink.2.mp (hsame ▸ hhold)
    refine ⟨?_, State.linkSound_answer_hold (r := r) ?_ rfl ..⟩
    · simp only [State.answer_capture, State.setCapture_capture, State.notifyAll_capture]
      exact Capture.grant_sound hframe hhold
    · simp only [State.setCapture_link, State.notifyAll_link]
      exact hr
  · refine ⟨?_, hlink.of_same ?_ ?_ ?_⟩ <;> simp only [State.notifyAll_capture, State.notifyAll_link,
      State.setCapture_capture, State.setCapture_link]
    · exact hframe
    · exact hsame

/-! ## The requests and the other commands -/

theorem Capture.release_sound {c : Capture} (hc : c.sound) (hstate : c.state = .frozen) : c.release.sound := by
  have hhold := hc.hold (by simp [hstate])
  obtain ⟨-, hdepth, -⟩ := hc
  simp [Capture.sound, Capture.release, hdepth, hhold]

theorem Capture.restart_sound (c : Capture) : c.restart.sound := by
  simp [Capture.sound, Capture.restart, Capture.release]

/-- What an owner leaves of Capture Memory, in a part that had no hold pending: a hold is pending exactly if the request
is to wait (R125). -/
theorem Taken.captureSound {s x : State} {k : RequestKind} {a : Answer} (h : Taken s k x a) (hstore : s.store.sound)
    (hs : s.capture.sound) (hhold : s.capture.holdPending = false) :
    x.capture.sound ∧ (x.capture.holdPending = true ↔ a = .wait) := by
  have hsame (e : x.capture = s.capture) (ha : a ≠ .wait) :
      x.capture.sound ∧ (x.capture.holdPending = true ↔ a = .wait) := by
    rw [e]
    exact ⟨hs, by simp [hhold, ha]⟩
  cases h with
  | triggered hstate =>
    have htrigger := Capture.trigger_sound hs hstore.preDepth (.inl hstate) s.requestTrigger
    rw [Capture.trigger_of_no_hold hhold] at htrigger
    exact ⟨htrigger, by simp [Capture.trigger, hhold, doneEmpty]⟩
  | revoked hstate =>
    have htrigger := Capture.trigger_sound hs hstore.preDepth (.inr hstate) s.requestTrigger
    rw [Capture.trigger_of_no_hold hhold] at htrigger
    exact ⟨htrigger, by simp [Capture.trigger, hhold, doneEmpty]⟩
  | pended hstate =>
    obtain ⟨hring, hdepth, hkept, hmissed, hidle, htriggered, hfrozen, -⟩ := hs
    exact ⟨⟨hring, hdepth, hkept, hmissed, hidle, htriggered, hfrozen, fun _ => hstate⟩, by simp⟩
  | rearmed hstate =>
    obtain ⟨hring, hdepth, hkept, hmissed, hidle, -, -, -⟩ := hs
    exact ⟨⟨hring, hdepth, hkept, hmissed, fun _ => hidle (.inr hstate), nofun, nofun, fun _ => rfl⟩,
      by simp [hhold, doneEmpty]⟩
  | released hstate =>
    exact ⟨Capture.release_sound hs hstate, by simp [Capture.release, hhold, doneEmpty]⟩
  | acknowledged => exact hsame (State.acknowledgeSlots_capture ..) nofun
  | silenced => exact hsame (State.reformHorn_capture ..) nofun
  | _ => exact hsame rfl nofun

/-- A request that is taken leaves the request in service as its answer says. -/
theorem Taken.responded_sound {s x : State} {k : RequestKind} {a : Answer} (h : Taken s.unoccupied k x a)
    (hlink : x.link = s.unoccupied.link) (hstore : s.store.sound) (hcapture : s.capture.sound) (hs : s.linkSound)
    (htakes : s.takesRequest) (tag : Byte) (p : List Byte) (hrdy : Bool) :
    (x.responded k tag p hrdy a).capture.sound ∧ (x.responded k tag p hrdy a).linkSound := by
  obtain ⟨htx, hhold⟩ := hs.of_takesRequest htakes
  obtain ⟨hsound, hwait⟩ := h.captureSound (s := s.unoccupied) hstore hcapture hhold
  refine ⟨by rw [State.responded_capture]; exact hsound, ?_⟩
  have hnohold (ha : a ≠ .wait) : x.capture.holdPending = false := Bool.eq_false_iff.mpr fun e => ha (hwait.mp e)
  cases a with
  | now => exact State.linkSound_replied (hnohold nofun) (.inl rfl) ..
  | thenRestart => exact State.linkSound_replied (hnohold nofun) (.inr rfl) ..
  | wait => exact State.linkSound_holding (by rw [hlink]; exact htx) (hwait.mpr rfl) ..

theorem State.endReply_sound {s : State} (hcapture : s.capture.sound) (hlink : s.linkSound) (hover : s.replyOver = true) :
    s.endReply.capture.sound ∧ s.endReply.linkSound := by
  have hsending : s.link.tx ≠ .idle := fun e => by simp [State.replyOver, e] at hover
  obtain ⟨r, hr, hstage⟩ := hlink.1.mp hsending
  have hhold : s.capture.holdPending = false := by
    refine Bool.eq_false_iff.mpr fun e => ?_
    obtain ⟨r', hr', hholding⟩ := hlink.2.mp e
    rw [hr, Option.some.injEq] at hr'
    subst hr'
    simp [hholding] at hstage
  unfold State.endReply
  dsimp only
  split
  · exact ⟨Capture.restart_sound s.capture, State.linkSound_free rfl rfl nofun⟩
  · exact ⟨hcapture, State.linkSound_free rfl hhold nofun⟩

theorem State.handFrame_sound {s : State} (hcapture : s.capture.sound) (hlink : s.linkSound) (bs : List Byte) :
    (s.handFrame bs).capture.sound ∧ (s.handFrame bs).linkSound := by
  unfold State.handFrame
  split
  · exact ⟨hcapture, hlink.of_same rfl rfl rfl⟩
  · next hnone =>
    have ⟨htx, hhold⟩ : s.link.tx = .idle ∧ s.capture.holdPending = false := by
      obtain ⟨htx, hhold⟩ := hlink
      exact ⟨by simpa [hnone] using htx, by simpa [hnone] using hhold⟩
    refine ⟨hcapture, State.linkSound_free htx hhold fun r hr => ?_⟩
    cases hr
    rfl

theorem State.startReply_sound {s : State} {r : Reply} (hlink : s.linkSound) (hwaits : s.link.tx = .waitHrdy r) :
    (s.startReply r).linkSound := by
  obtain ⟨htx, hhold⟩ := hlink
  rw [hwaits] at htx
  refine ⟨⟨fun _ => htx.mp nofun, fun _ => ?_⟩, hhold⟩
  exact nofun

theorem State.powerOn_memorySound (rate : BitVec 2) (fnom : Fnom) :
    memorySound (State.powerOn rate fnom).capture (State.powerOn rate fnom).link :=
  ⟨(by decide : Capture.powerOn.sound), by simp [State.powerOn, Link.powerOn], by simp [State.powerOn, Link.powerOn, Capture.powerOn]⟩

theorem Effect.memorySound {s t : State} {c : Instr} (hstore : s.store.sound) (hs : s.capture.sound ∧ s.linkSound)
    (h : Effect s c t) : t.capture.sound ∧ t.linkSound := by
  obtain ⟨hcapture, hlink⟩ := hs
  have hsame (hc : t.capture = s.capture) (hl : t.link = s.link) : t.capture.sound ∧ t.linkSound :=
    ⟨hc ▸ hcapture, hlink.of_same (by rw [hl]) (by rw [hl]) (by rw [hc])⟩
  cases h with
  | reset rate fnom => exact State.powerOn_memorySound rate fnom
  | started _ =>
    obtain ⟨f, e⟩ := State.startCycle_capture s.scanner.cycleNumber (s.tracker.cycleStart s.time.fnom)
      (s.setTime { s.time with phase := .running })
    refine ⟨by rw [e]; exact hcapture, hlink.of_same ?_ ?_ (by rw [e]; rfl)⟩ <;> rw [State.startCycle_link] <;> rfl
  | crossed => exact hsame (State.moveTracker_capture ..) (State.moveTracker_link ..)
  | expired => exact hsame (State.moveTracker_capture ..) (State.moveTracker_link ..)
  | beat ackb =>
    obtain ⟨_, _, _, e⟩ := s.beat_frame ackb
    exact hsame (by rw [e]) (by rw [e])
  | framed _ r bs =>
    exact State.handFrame_sound (s := s.setLink { s.link with receiver := r, byteTicks := 0 }) hcapture
      (hlink.of_same rfl rfl rfl) bs
  | unknownKind kind tag p hrdy htakes =>
    exact ⟨hcapture, State.linkSound_replied (hlink.of_takesRequest htakes).2 (.inl rfl) ..⟩
  | served k tag p hrdy x a htakes hx hxlink => exact hx.responded_sound hxlink hstore hcapture hlink htakes tag p hrdy
  | replyStarted r hwaits => exact ⟨hcapture, State.startReply_sound hlink hwaits⟩
  | replyEnded hover => exact State.endReply_sound hcapture hlink hover
  | _ => exact ⟨hcapture, hlink.of_same rfl rfl rfl⟩

theorem State.runPart_memorySound {s : State} (hstore : s.store.sound) (hs : s.capture.sound ∧ s.linkSound)
    (hrdy : Bool) (p : CompletionPart) :
    (s.runPart hrdy p).capture.sound ∧ (s.runPart hrdy p).linkSound := by
  refine State.runPart_memory (P := memorySound) (fun x tr hx h => ?_) (fun x _ h => ?_) (fun _ _ _ h => h) hs p
  · exact State.takeTrigger_sound (hx ▸ hstore.preDepth) h.1 h.2 hrdy tr
  · exact State.takeFrame_sound h.1 h.2 hrdy

/-- Settles O59: triggers, frames, holds and answers each move Capture Memory and the request in service together. -/
theorem stepKeepsCaptureAndService : Obligations.StepKeepsCaptureAndService := by
  unfold Obligations.StepKeepsCaptureAndService
  intro s t hstore hs h
  have ht : t.store.sound ∧ t.capture.sound ∧ t.linkSound := by
    refine step_keeps (P := fun s => s.store.sound ∧ s.capture.sound ∧ s.linkSound) (fun _ _ h => h) (fun s hs => ?_)
      (fun s c t hs h => ⟨h.storeSound hs.1, h.memorySound hs.1 hs.2⟩) (fun s c x hs h => ?_)
      (fun hrdy x p hx _ _ => ⟨State.runPart_storeSound (s := x.without p) hx.1 hrdy p,
        State.runPart_memorySound (s := x.without p) hx.1 hx.2 hrdy p⟩) ⟨hstore, hs⟩ h
    · unfold State.tick
      repeat' split
      all_goals exact hs
    · cases h <;> exact hs
  exact ht.2

end Sys2Proof.Machine

namespace Sys2Proof.Machine

/-! ## The step and the tick -/

/-- Settles O1: `step` matches on the queue. -/
theorem stepRunsTheFrontCommand : Obligations.StepRunsTheFrontCommand := by
  unfold Obligations.StepRunsTheFrontCommand
  intro c rest s h
  rw [step, h]

theorem step_of_empty {s : State} (h : s.pending = []) : step s = .next s.tick := by
  rw [step, h]

theorem Link.receivingFrame_iff {l : Link} : l.receivingFrame = true ↔ l.receiver ≠ .hunting := by
  unfold Link.receivingFrame
  cases l.receiver <;> simp

/-- The counters that a tick reaches (R2, R3, R13, R101, R155, R150). -/
theorem State.countTick_eq (s : State) : s.countTick = { s with
    tracker := { s.tracker with ticks := s.tracker.ticks + 1 }
    scanner := { s.scanner with cycle := s.scanner.cycle.map fun c => { c with ticks := c.ticks + 1 } }
    ann := { s.ann with beatTicks := s.ann.beatTicks + 1, hornReset := false, lampReset := false }
    link := { s.link with
      byteTicks := if s.link.receiver = .hunting then s.link.byteTicks else s.link.byteTicks + 1
      txTicks := match s.link.tx with
        | .sending _ => s.link.txTicks + 1
        | .idle | .waitHrdy _ => s.link.txTicks } } := by
  have hbyte : (if s.link.receivingFrame then s.link.byteTicks + 1 else s.link.byteTicks) =
      if s.link.receiver = .hunting then s.link.byteTicks else s.link.byteTicks + 1 := by
    by_cases h : s.link.receiver = .hunting
    · rw [if_pos h, if_neg (fun e => Link.receivingFrame_iff.mp e h)]
    · rw [if_neg h, if_pos (Link.receivingFrame_iff.mpr h)]
  have hsend : (if s.link.isSending then s.link.txTicks + 1 else s.link.txTicks) = (match s.link.tx with
      | .sending _ => s.link.txTicks + 1
      | .idle | .waitHrdy _ => s.link.txTicks) := by
    unfold Link.isSending
    cases s.link.tx <;> rfl
  rw [State.countTick, hbyte, hsend]

/-- Settles O2: the tick, by the phase of the timebase and whether an event is due. -/
theorem emptyQueueStepIsOneTick : Obligations.EmptyQueueStepIsOneTick := by
  unfold Obligations.EmptyQueueStepIsOneTick
  intro s hs
  simp only [step_of_empty hs, State.tick, Host.Outcome.next.injEq]
  refine ⟨fun hphase hless => ?_, fun hphase hdone => ?_, fun hphase hdue => ?_, fun hphase hdue => ?_⟩
  · rw [hphase]
    exact if_pos hless
  · rw [hphase]
    exact if_neg (Nat.not_lt.mpr hdone)
  · rw [hphase]
    exact if_pos hdue
  · rw [hphase]
    exact (if_neg (by simp [hdue])).trans s.countTick_eq

/-! ## Reset and start-up -/

/-- Settles O3: the power-on value of each field, read off the state that a power-on reset leaves. -/
theorem powerOnResetValues : Obligations.PowerOnResetValues := by
  unfold Obligations.PowerOnResetValues
  refine ⟨⟨rfl, Config.resetRate, Config.resetFnom, fun s hs => ?_⟩, fun rate fnom s => ⟨_, rfl, ?_⟩⟩
  · simp [exec, execPowerOnReset, State.reset, State.powerOn, hs]
  · refine ⟨rfl, rfl, rfl, rfl, fun i => Table.get_fill _ i, rfl, rfl, rfl, rfl, rfl, rfl, fun u => Table.get_fill _ u, rfl,
      rfl, rfl, rfl, ?_, fun i => Table.get_fill _ i, fun u => Table.get_fill _ u, fun u => Table.get_fill _ u,
      fun u => Table.get_fill _ u, fun k => Table.get_fill _ k, rfl, rfl, rfl, rfl⟩
    cases fnom <;> rfl

/-- Settles O4: in STARTING the part is not RUNNING, which every event and every request asks for. -/
theorem startingTakesNothing : Obligations.StartingTakesNothing := by
  unfold Obligations.StartingTakesNothing
  intro s hs
  have hrun : s.isRunning = false := by simp [State.isRunning, hs]
  refine ⟨?_, ?_, ?_, fun v => ?_, fun o w h => ?_, fun o w h => ?_, fun a => ?_, fun b f e => ?_, ?_, ?_, ?_,
    fun k t p h => ?_, fun k t p h => ?_⟩
  · simp [exec, execZrefRisingCrossing, hrun]
  · simp [exec, execMissingCrossingExpiry, hrun]
  · cases hc : s.scanner.cycle <;> simp [exec, execSampleSlot, hrun, hc]
  · cases hc : s.scanner.cycle <;> simp [exec, execConversionComplete, hrun, hc]
  · simp [exec, execCycleCompletion, State.completionDue, State.cycleInFlight, hrun]
  · simp [exec, execEpochCompletion, State.epochInFlight, hrun]
  · simp [exec, execBeatExpiry, hrun]
  · simp [exec, execByteTaken, hrun]
  · simp [exec, execInterByteExpiry, hrun]
  · simp [exec, execFrameDropped, hrun]
  · simp [exec, execReplySent, hrun]
  · simp [exec, execRequestUnknownKind, State.entry, hrun]
  · rw [exec_command, s.serve_starting k _ t p h hs]

/-- Settles O52: every block's power-on value meets its invariant. -/
theorem resetIsSound : Obligations.ResetIsSound := by
  unfold Obligations.ResetIsSound
  have hundefined (u : Fin 8) : State.reset.isDefined u = false := by
    simp [State.reset, State.isDefined, State.powerOn, Store.powerOn, Settings.powerOn, TransformerItem.powerOn]
  have hslot (u : Fin 8) : State.reset.slots.get u = .zero := Table.get_fill _ u
  refine ⟨(by decide : NoticeQueue.empty.sound), (by decide : Tracker.powerOn.sound), nofun, nofun,
    Store.powerOn_sound _, fun u _ => hslot u, fun u => hslot u ▸ Thermal.zero_sound, fun u hu => ?_,
    State.signalsSound_of_powerOn rfl rfl, rfl, ?_⟩
  · rw [hundefined u] at hu
    cases hu
  · obtain ⟨hcapture, hlink⟩ := State.powerOn_memorySound Config.resetRate Config.resetFnom
    exact ⟨hcapture, hlink, by simp [State.reset, State.powerOn, Flight.none, Flight.sound]⟩

/-- A cycle start, in full (R11, R12, R36, R115). -/
theorem State.startCycle_eq (number : Count32) (g : CycleStart) (s : State) : s.startCycle number g = { s with
    scanner := {
      cycleNumber := number
      cycle := some (.fresh number g.ps g.degraded s.applied.enabledChannels (decide (s.cond.selfCheck = .scheduled))) }
    cond := { s.cond with selfCheck := if decide (s.cond.selfCheck = .scheduled) then .running else s.cond.selfCheck }
    capture := { s.capture with current := some (.fresh number g.ps g.degraded s.applied.enabledChannels) } } := by
  have hcheck : (s.cond.selfCheck == .scheduled) = decide (s.cond.selfCheck = .scheduled) := by
    cases s.cond.selfCheck <;> rfl
  simp only [State.startCycle, hcheck]
  split <;> rfl

theorem Tracker.cycleStart_of_searching {t : Tracker} (h : t.state = .searching) (f : Fnom) : t.cycleStart f =
    { ps := if f = .hz50 then 20000 else 16667, degraded := true } := by
  simp only [Tracker.cycleStart, Tracker.samplingPeriod, Tracker.degradedNow, h]
  cases f <;> rfl

/-- Settles O5: the first cycle start is nominal and degraded, as the tracker is SEARCHING. -/
theorem startingEndStartsTheFirstCycle : Obligations.StartingEndStartsTheFirstCycle := by
  unfold Obligations.StartingEndStartsTheFirstCycle
  intro s hphase hticks htracker
  have hstep : exec .startingEnd s = .next ((s.setTime { s.time with phase := .running }).startCycle
      s.scanner.cycleNumber (s.tracker.cycleStart s.time.fnom)) :=
    congrArg Host.Outcome.next (if_pos ⟨hphase, hticks⟩)
  rw [hstep, Tracker.cycleStart_of_searching htracker, State.startCycle_eq]
  rfl

/-! ## The Cycle Tracker -/

theorem exec_crossing {s : State} (hrun : s.time.phase = .running) :
    exec .zrefRisingCrossing s = .next (s.moveTracker s.tracker.crossing) :=
  congrArg Host.Outcome.next (if_pos (s.isRunning_iff.mpr hrun))

theorem Tracker.crossing_of_none {t : Tracker} (h : t.reference = false) :
    t.crossing = ({ t with reference := true, ticks := 0 }, []) := by
  simp [Tracker.crossing, h]

theorem Tracker.crossing_of_good {t : Tracker} (h : t.reference = true) (hlow : 14286 ≤ t.ticks) (hhigh : t.ticks ≤ 25000) :
    t.crossing = ({ t with reference := true, ticks := 0 } : Tracker).takeGood t.ticks := by
  simp [Tracker.crossing, h, goodPeriod, hlow, hhigh]

theorem Tracker.crossing_of_bad {t : Tracker} (h : t.reference = true) (hlow : t.ticks < 14286) :
    t.crossing = ({ t with reference := true, ticks := 0 } : Tracker).takeBad := by
  simp [Tracker.crossing, h, goodPeriod, Nat.not_le.mpr hlow]

/-- A good period of a tracker that is not LOCKED locks it at the third (R6). -/
theorem Tracker.takeGood_of_run {t : Tracker} (h : t.state ≠ .locked) (hrun : t.goodRun < 2) (p : Nat) :
    t.takeGood p = ({ t with goodRun := t.goodRun + 1 }, []) := by
  unfold Tracker.takeGood
  split
  · next hlocked => exact absurd hlocked h
  all_goals exact if_pos (by omega)

theorem Tracker.takeBad_of_unlocked {t : Tracker} (h : t.state ≠ .locked) : t.takeBad = ({ t with goodRun := 0 }, []) := by
  unfold Tracker.takeBad
  split
  · next hlocked => exact absurd hlocked h
  all_goals rfl

/-- Settles O6: a crossing that measures a good period, by the state that it finds. -/
theorem crossingsAndGoodPeriods : Obligations.CrossingsAndGoodPeriods := by
  unfold Obligations.CrossingsAndGoodPeriods
  refine ⟨fun s hrun href => ?_, fun s p hrun href hp hlow hhigh => ?_⟩
  · rw [exec_crossing hrun, Tracker.crossing_of_none href]
    rfl
  · subst hp
    rw [exec_crossing hrun, Tracker.crossing_of_good href hlow hhigh]
    refine ⟨fun hstate => ?_, fun hstate hgood => ?_, fun hstate hgood => ?_, fun hstate hgood => ?_⟩
    · simp [Tracker.takeGood, hstate, State.moveTracker, State.notifyAll, State.setTracker]
    · rw [Tracker.takeGood_of_run (t := { s.tracker with reference := true, ticks := 0 }) hstate hgood]
      rfl
    · simp [Tracker.takeGood, hstate, hgood, State.moveTracker, State.notifyAll, State.setTracker]
    · rcases hstate with hstate | hstate <;>
        simp [Tracker.takeGood, hstate, hgood, State.moveTracker, State.notifyAll, State.notify, State.setTracker,
          State.setNotices]

/-- Settles O7: a bad period, whether measured or counted out, by the state that it finds. -/
theorem badPeriodsByTrackerState : Obligations.BadPeriodsByTrackerState := by
  unfold Obligations.BadPeriodsByTrackerState
  refine ⟨fun s hrun href hlow => ?_, fun s hrun hticks => ?_⟩
  · rw [exec_crossing hrun, Tracker.crossing_of_bad href hlow]
    refine ⟨fun hstate => ?_, fun hstate => ?_⟩
    · simp [Tracker.takeBad, hstate, State.moveTracker, State.notifyAll, State.notify, State.setTracker, State.setNotices]
    · rw [Tracker.takeBad_of_unlocked (t := { s.tracker with reference := true, ticks := 0 }) hstate]
      rfl
  · have hstep : exec .missingCrossingExpiry s = .next (s.moveTracker s.tracker.expiry) :=
      congrArg Host.Outcome.next (if_pos (by simp [s.isRunning_iff.mpr hrun, hticks]))
    rw [hstep, Tracker.expiry]
    refine ⟨fun hstate => ?_, fun hstate => ?_⟩
    · simp [Tracker.takeBad, hstate, State.moveTracker, State.notifyAll, State.notify, State.setTracker, State.setNotices]
    · rw [Tracker.takeBad_of_unlocked (t := { s.tracker with ticks := 0, reference := false }) hstate]
      rfl

/-! ## The Sample Scanner -/

theorem slotTime_spacing {ps : Nat} (hlow : 14286 ≤ ps) (k : Nat) : slotTime ps k + 446 ≤ slotTime ps (k + 1) := by
  unfold slotTime
  rw [Nat.succ_mul]
  omega

/-- Settles O8: the slot times are the floors of multiples of P_s / 32. -/
theorem sampleSlotsAndTheirConversions : Obligations.SampleSlotsAndTheirConversions := by
  unfold Obligations.SampleSlotsAndTheirConversions
  refine ⟨fun ps hlow hhigh => ⟨?_, fun k _ => slotTime_spacing hlow k, ?_, ?_⟩, fun s c hrun hc hslot hticks => ?_⟩
  · simp [slotTime]
  · unfold slotTime
    omega
  · unfold slotTime
    omega
  · have hdue : c.slotDue = true := by simp [Cycle.slotDue, hslot, hticks, slotTime]
    simp [exec, execSampleSlot, hc, s.isRunning_iff.mpr hrun, hdue, State.setScanner, Cycle.takeSlot, Cycle.slotConversions,
      Cycle.channels, Function.comp_def]

end Sys2Proof.Machine

namespace Sys2Proof.Machine

/-! ## The Sample Scanner's codes (R15 to R17) -/

theorem adcCode_toNat (v : Int) : (adcCode v).toNat = min 4095 (v * 4096 / 2500000).toNat := by
  rw [adcCode, BitVec.toNat_ofNat]
  exact Nat.mod_eq_of_lt (by omega)

theorem OpenFrame.collect_of_dropped {f : OpenFrame} (h : f.kept = false) (i : Fin 16) (code : Code) :
    f.collect i code = f := by
  simp [OpenFrame.collect, h]

section
variable {s : State} {c : Cycle} {v : Int} {rest : List ConvInput} (hrun : s.time.phase = .running)
  (hc : s.scanner.cycle = some c) (hdue : c.conversionDue = true)
include hrun hc hdue

/-- A conversion of a channel that is due enters the sums and the open frame (R16, R115). -/
theorem exec_conversion_of_channel {i : Fin 16} (h : c.conversions = .channel i :: rest) :
    exec (.conversionComplete v) s = .next ((s.setScanner
      { s.scanner with cycle := some (c.takeCode (adcCode v)) }).setCapture
        { s.capture with current := s.capture.current.map (·.collect i (adcCode v)) }) := by
  simp only [exec, execConversionComplete, hc, s.isRunning_iff.mpr hrun, hdue, Bool.and_self, if_true, h]

/-- A conversion of the reference or of the ground enters its sum alone (R17). -/
theorem exec_conversion_of_check {input : ConvInput} (h : c.conversions = input :: rest)
    (hinput : ∀ i, input ≠ .channel i) : exec (.conversionComplete v) s =
      .next (s.setScanner { s.scanner with cycle := some (c.takeCode (adcCode v)) }) := by
  cases input with
  | channel i => exact absurd rfl (hinput i)
  | _ => simp only [exec, execConversionComplete, hc, s.isRunning_iff.mpr hrun, hdue, Bool.and_self, if_true, h]

end

/-- Settles O9: the code is the floor clamped to its range, and the kind of the conversion says where it goes. -/
theorem conversionEntersItsSum : Obligations.ConversionEntersItsSum := by
  unfold Obligations.ConversionEntersItsSum
  refine ⟨fun v => ⟨fun hneg => ?_, fun hover => ?_, fun hlow hhigh => ?_⟩, fun s c rest v hrun hc hticks => ?_⟩
  · refine BitVec.eq_of_toNat_eq ?_
    rw [adcCode_toNat]
    have : v * 4096 / 2500000 < 0 := by omega
    simp [Int.toNat_of_nonpos this.le]
  · refine BitVec.eq_of_toNat_eq ?_
    rw [adcCode_toNat]
    have : 4096 ≤ v * 4096 / 2500000 := by omega
    have : 4095 ≤ (v * 4096 / 2500000).toNat := by omega
    simp [this]
  · rw [adcCode_toNat]
    have hfloor : 0 ≤ v * 4096 / 2500000 ∧ v * 4096 / 2500000 ≤ 4095 := by omega
    have : ((min 4095 (v * 4096 / 2500000).toNat : Nat) : Int) = v * 4096 / 2500000 := by omega
    rw [this]
    omega
  · have hdue (input : ConvInput) (h : c.conversions = input :: rest) : c.conversionDue = true := by
      simp [Cycle.conversionDue, h, hticks]
    refine ⟨fun i h hopen => ?_, fun i f h hf hkept => ?_, fun h => ?_, fun h => ?_⟩
    · have hsame : s.capture.current.map (·.collect i (adcCode v)) = s.capture.current := by
        cases hcurrent : s.capture.current with
        | none => rfl
        | some f => exact congrArg some (OpenFrame.collect_of_dropped (hopen f hcurrent) i _)
      rw [exec_conversion_of_channel hrun hc (hdue _ h) h, hsame, Cycle.takeCode, h]
      rfl
    · rw [exec_conversion_of_channel hrun hc (hdue _ h) h, hf, Option.map_some, OpenFrame.collect, if_pos hkept,
        Cycle.takeCode, h]
      rfl
    · rw [exec_conversion_of_check hrun hc (hdue _ h) h nofun, Cycle.takeCode, h]
      rfl
    · rw [exec_conversion_of_check hrun hc (hdue _ h) h nofun, Cycle.takeCode, h]
      rfl

/-! ## The tone (R105) -/

/-- Settles O28: the edges and the divisors are the model's, and the high times are rounded between 1 and the divisor. -/
theorem tonePeriodAlternatesTheLine : Obligations.TonePeriodAlternatesTheLine := by
  unfold Obligations.TonePeriodAlternatesTheLine
  refine ⟨fun s => ?_, rfl, fun d hd l hlow hhigh => ⟨roundHalfUp_roundedUp _ (by decide), ?_⟩⟩
  · have hedge : Tone.edge s.applied.annunciator = fun t : Tone =>
        if t.high then { t with high := false }
        else
          let index := if t.source = .chirp then s.store.applied.annunciator.chirpTone
            else s.store.applied.annunciator.hornTone
          { source := t.source, divisor := toneDivisor index, high := true
            highTime := highTime (toneDivisor index) s.store.applied.annunciator.loudness } := by
      funext t
      obtain ⟨source, _, _, _⟩ := t
      cases source <;> rfl
    rw [← hedge]
    rfl
  · have hrange : ∀ d ∈ [12, 15, 16, 20, 24, 30, 32, 40], ∀ l : Fin 9, 1 ≤ l.val →
        1 ≤ highTime d l.val ∧ highTime d l.val < d := by decide
    exact hrange d hd ⟨l, by omega⟩ hlow

/-! ## SELF CHECK and RESTART (R34, R162) -/

/-- Settles O45: the owner's answer by the state of the check; a RESTART is answered and waits. -/
theorem selfCheckAndRestartRequests : Obligations.SelfCheckAndRestartRequests := by
  unfold Obligations.SelfCheckAndRestartRequests
  intro s tag hrdy hs
  refine ⟨fun hcheck => ?_, fun hcheck => ?_, ?_⟩
  · refine congrArg Host.Outcome.next (State.serve_of_owner hs rfl ?_ hrdy)
    rcases hcheck with h | h <;> simp [State.takeSelfCheck, State.enterService, h]
  · refine congrArg Host.Outcome.next (State.serve_of_owner
      (s2 := { s with cond := { s.cond with selfCheck := .scheduled, origin := some .request } }) hs rfl ?_ hrdy)
    rcases hcheck with h | h | h <;> simp only [State.takeSelfCheck, State.enterService, State.setLink_cond, h] <;> rfl
  · refine congrArg Host.Outcome.next ?_
    rw [State.serve, s.entry_taken _ _ _ hs]
    exact State.answerTo_eq (s.enterService 0x3F tag []) 0x3F tag [] .entered .restarting .done [] hrdy rfl

end Sys2Proof.Machine

namespace Sys2Proof.Machine

/-! ## The horn request and the pattern in use (R102, R103) -/

/-- The flash levels of the FLASHING ones among some slots. -/
def flashLevels (xs : List Slot) : List Level := (xs.filter fun x => x.signal.state = .flashing).map (·.signal.flash)

theorem foldl_higherOf_eq_max? (xs : List Slot) : ∀ acc : Option Level,
    xs.foldl (fun acc x => if x.signal.state = .flashing then higherOf acc x.signal.flash else acc) acc =
      (acc.toList ++ flashLevels xs).max? := by
  induction xs with
  | nil => intro acc; cases acc <;> simp [flashLevels]
  | cons x xs ih =>
    intro acc
    rw [List.foldl_cons, ih]
    by_cases hx : x.signal.state = .flashing
    · have hlevels : flashLevels (x :: xs) = x.signal.flash :: flashLevels xs := by simp [flashLevels, hx]
      rw [if_pos hx, hlevels]
      cases acc <;> rfl
    · have hlevels : flashLevels (x :: xs) = flashLevels xs := by simp [flashLevels, hx]
      rw [if_neg hx, hlevels]

/-- The highest flash level is the highest of the flash levels of the FLASHING slots (R103). -/
theorem highestFlash_eq_max? (slots : Table 8 Slot) : highestFlash slots = (flashLevels slots.cells).max? :=
  foldl_higherOf_eq_max? slots.cells none

theorem mem_flashLevels {slots : Table 8 Slot} {n : Level} : n ∈ flashLevels slots.cells ↔
    ∃ u, (slots.get u).signal.state = .flashing ∧ (slots.get u).signal.flash = n := by
  simp only [flashLevels, List.mem_map, List.mem_filter, Table.mem_cells, decide_eq_true_eq]
  constructor
  · rintro ⟨x, ⟨⟨u, rfl⟩, hstate⟩, hflash⟩
    exact ⟨u, hstate, hflash⟩
  · rintro ⟨u, hstate, hflash⟩
    exact ⟨_, ⟨⟨u, rfl⟩, hstate⟩, hflash⟩

theorem highestFlash_eq_some_iff {slots : Table 8 Slot} {n : Level} : highestFlash slots = some n ↔
    (∃ u, (slots.get u).signal.state = .flashing ∧ (slots.get u).signal.flash = n) ∧
      ∀ u, (slots.get u).signal.state = .flashing → (slots.get u).signal.flash ≤ n := by
  rw [highestFlash_eq_max?, List.max?_eq_some_iff, mem_flashLevels]
  refine and_congr_right fun _ => ⟨fun h u hu => h _ (mem_flashLevels.mpr ⟨u, hu, rfl⟩), fun h b hb => ?_⟩
  obtain ⟨u, hu, rfl⟩ := mem_flashLevels.mp hb
  exact h u hu

theorem highestFlash_isSome_iff {slots : Table 8 Slot} :
    (highestFlash slots).isSome = true ↔ ∃ u, (slots.get u).signal.state = .flashing := by
  have hsome : (highestFlash slots).isSome = true ↔ ∃ n, n ∈ flashLevels slots.cells := by
    rw [highestFlash_eq_max?, ← Option.ne_none_iff_isSome, ne_eq, List.max?_eq_none_iff, List.eq_nil_iff_forall_not_mem]
    push Not
    rfl
  rw [hsome]
  simp only [mem_flashLevels]
  exact ⟨fun ⟨_, u, hu, _⟩ => ⟨u, hu⟩, fun ⟨u, hu⟩ => ⟨_, u, hu, rfl⟩⟩

/-- R103: the request is true exactly while a slot is FLASHING with the silenced mark clear. -/
theorem State.hornRequest_iff (s : State) :
    s.hornRequest = true ↔ s.ann.silenced = false ∧ ∃ u, (s.slots.get u).signal.state = .flashing := by
  rw [State.hornRequest, State.hornKey]
  cases s.ann.silenced with
  | true => simp
  | false => simpa using highestFlash_isSome_iff

theorem State.hornKey_eq_some_iff {s : State} {n : Level} : s.hornKey = some n ↔ s.ann.silenced = false ∧
    (∃ u, (s.slots.get u).signal.state = .flashing ∧ (s.slots.get u).signal.flash = n) ∧
      ∀ u, (s.slots.get u).signal.state = .flashing → (s.slots.get u).signal.flash ≤ n := by
  rw [State.hornKey]
  cases s.ann.silenced with
  | true => simp
  | false => simpa using highestFlash_eq_some_iff

/-! ## The line (R104, R105) -/

theorem State.hornLine_iff (s : State) :
    s.hornLine = true ↔ s.time.phase = .running ∧ ∃ x, s.ann.tone = some x ∧ x.high = true := by
  rw [State.hornLine]
  cases s.ann.tone with
  | none => simp
  | some t => simp [s.isRunning_iff]

/-- What the line carries when it is true to its source (R104). -/
theorem State.toneSound.tone {s : State} (h : s.toneSound) {src : ToneSource} (hsrc : s.lineSource = some src) :
    ∃ x, s.ann.tone = some x ∧ x.source = src := by
  rw [State.toneSound, hsrc, Option.map_eq_some_iff] at h
  exact h

theorem State.toneSound.silent {s : State} (h : s.toneSound) (hsrc : s.lineSource = none) : s.ann.tone = none := by
  rw [State.toneSound, hsrc, Option.map_eq_none_iff] at h
  exact h

theorem State.lineSource_of_chirp {s : State} (h : 0 < s.ann.chirp) : s.lineSource = some .chirp := if_pos h

theorem State.lineSource_of_no_chirp {s : State} (h : s.ann.chirp = 0) : s.lineSource = (match s.hornKey with
    | some n => if (s.applied.annunciator.hornPattern n).steps.getLsbD s.ann.hornPos then some .horn else none
    | none => none) := if_neg (by omega)

/-- A request that an owner answers, as the owner left every block but the link (R156, R159). -/
theorem State.serve_of_owner_setLink {s y : State} {k : RequestKind} {owner : State → State × Answer} {tag : Byte}
    {p : List Byte} {status : ReplyStatus} {body : List Byte} (hs : s.canServe) (hlength : p.length = k.length)
    (hlink : y.link = s.link)
    (howner : ∀ l, owner (s.setLink l) = (y.setLink l, .now status body)) (hrdy : Bool) :
    s.serve k owner tag p hrdy = y.answered k tag p status body hrdy := by
  refine State.serve_of_owner hs hlength ?_ hrdy
  rw [State.enterService, howner, State.enterService, hlink]

/-- The state once the silenced mark is set and the line is formed anew (R102, R103). -/
def State.silence (s : State) : State := (s.setAnn { s.ann with silenced := true }).reformHorn s

theorem State.silence_eq (s : State) :
    s.silence = { s with ann := { s.ann with silenced := true, tone := s.silence.ann.tone } } := by
  have hpattern : (s.setAnn { s.ann with silenced := true }).reformPattern s =
      s.setAnn { s.ann with silenced := true } := by simp [State.reformPattern, State.hornKey]
  obtain ⟨tone, e⟩ := State.reformTone_eq (s.setAnn { s.ann with silenced := true })
  have hall : s.silence = (s.setAnn { s.ann with silenced := true }).reformTone := by
    rw [State.silence, State.reformHorn, hpattern]
  rw [hall, e]
  rfl

theorem State.silence_hornRequest (s : State) : s.silence.hornRequest = false := by
  have hsilenced : s.silence.ann.silenced = true := by rw [State.silence_eq]
  rw [State.hornRequest, State.hornKey, hsilenced]
  rfl

/-- Settles O27: the request, the pattern and the line as their definitions say, and SILENCE by the request that it
finds. -/
theorem hornRequestLineAndSilence : Obligations.HornRequestLineAndSilence := by
  unfold Obligations.HornRequestLineAndSilence
  refine ⟨fun s => ⟨s.hornRequest_iff, fun n hn => (State.hornKey_eq_some_iff.mp hn).2⟩, fun i => ⟨rfl, rfl, rfl⟩,
    fun s hs => ⟨fun hchirp => hs.tone (State.lineSource_of_chirp hchirp), fun hchirp hnone => ?_,
      fun hchirp n hn => ⟨fun hstep => ?_, fun hstep => ?_⟩⟩, fun s => ⟨s.hornLine_iff, fun hs hline => ?_⟩,
    fun s tag hrdy hs => ⟨fun hquiet => ?_, fun hloud => ?_⟩⟩
  · exact hs.silent (by rw [State.lineSource_of_no_chirp hchirp, hnone])
  · refine hs.tone ?_
    rw [State.lineSource_of_no_chirp hchirp, hn]
    exact if_pos hstep
  · refine hs.silent ?_
    rw [State.lineSource_of_no_chirp hchirp, hn]
    exact if_neg (by rw [State.applied, hstep]; exact Bool.false_ne_true)
  · rcases Nat.eq_zero_or_pos s.ann.chirp with hchirp | hchirp
    · right
      obtain ⟨x, hx, -⟩ := (s.hornLine_iff.mp hline).2
      rw [← s.hornRequest_iff, State.hornRequest, ← Option.ne_none_iff_isSome]
      intro hnone
      rw [hs.silent (by rw [State.lineSource_of_no_chirp hchirp, hnone])] at hx
      cases hx
    · exact .inl hchirp
  · refine congrArg Host.Outcome.next (State.serve_of_owner_setLink hs rfl rfl (fun l => ?_) hrdy)
    have hkept : (s.setLink l).hornRequest = false := hquiet
    simp [State.takeSilence, hkept, doneEmpty]
  · refine ⟨s.silence, congrArg Host.Outcome.next (State.serve_of_owner_setLink (y := s.silence) hs rfl
      (State.reformHorn_link _ s) (fun l => ?_) hrdy), s.silence_eq, s.silence_hornRequest, State.reformHorn_toneSound _ s⟩
    have hkept : (s.setLink l).hornRequest = true := hloud
    rw [State.takeSilence, hkept, if_pos rfl, State.silence, ← State.reformHorn_setLink]
    rfl

/-! ## The other lines (R108 to R110, R150, R169) -/

theorem Signal.ackChanges_iff {x : Signal} : x.ackChanges = true ↔ x.state = .flashing ∨ x.state = .ringback := by
  unfold Signal.ackChanges
  cases x.state <;> simp

theorem State.healthy_iff (s : State) : s.healthy = true ↔ s.tracker.state = .locked ∧ s.cond.verdict ≠ .fail ∧
    ∀ c, (s.store.applied.channels.get c).enabled = true → (s.cond.channels.get c).state ≠ .fault := by
  simp only [State.healthy, State.channelFaulty, State.applied, Bool.and_eq_true, beq_iff_eq, List.all_eq_true,
    List.mem_finRange, forall_true_left, Bool.not_eq_true', Bool.and_eq_false_imp, beq_eq_false_iff_ne, bne_iff_ne, ne_eq]
  tauto

theorem State.contact_iff {s : State} (hrun : s.time.phase = .running) (k : Fin 6) :
    s.contact k = true ↔ (s.store.applied.contacts.get k).enabled = true ∧
      (s.sourceTrue (s.store.applied.contacts.get k).source = true ↔
        (s.store.applied.contacts.get k).sense = .energizeWhenTrue) := by
  simp only [State.contact, s.isRunning_iff.mpr hrun, Bool.true_and, Bool.and_eq_true, State.applied]
  refine and_congr_right fun _ => ?_
  cases s.sourceTrue (s.store.applied.contacts.get k).source <;> cases (s.store.applied.contacts.get k).sense <;> decide

/-- Settles O29: each line and each source as its definition has it, and TXD by the bit of the character in hand. -/
theorem linesFollowTheState : Obligations.LinesFollowTheState := by
  unfold Obligations.LinesFollowTheState
  intro s
  refine ⟨fun hphase => ?_, fun n hphase => ?_, fun k hphase => State.contact_iff hphase k, rfl, fun u n => ?_,
    fun n => ?_, ?_, s.hornRequest_iff, s.healthy_iff, ?_, ?_, ?_, ?_, ?_⟩
  · have hrun : s.isRunning = false := by simp [State.isRunning, hphase]
    refine ⟨fun n => by simp [State.lamp, hrun], fun k => by simp [State.contact, hrun], ?_, by simp [State.prdy, hrun]⟩
    cases htone : s.ann.tone <;> simp [State.hornLine, hrun, htone]
  · have hrun := s.isRunning_iff.mpr hphase
    refine ⟨fun h => ?_, fun h => ?_, fun h => ?_, fun h => ?_⟩ <;> simp [State.lamp, hrun, h, Pattern.on, State.applied]
  · simp [State.sourceTrue]
  · simp [State.sourceTrue, State.isDefined]
  · simp [State.sourceTrue, State.unacknowledged, Signal.ackChanges_iff]
  · simp [State.sourceTrue]
  · simp [State.attn, State.applied, List.isEmpty_eq_false_iff]
  · simp [State.prdy, s.isRunning_iff]
  · rintro (h | ⟨r, h⟩) <;> simp [State.txd, h]
  · intro bytes b j i htx hb hi hlow hhigh
    have hbit : s.link.txTicks * bitRate s.time.rate / 1000000 = 10 * j + i := by omega
    have htxd : s.txd = characterBit b i := by
      have hj : (10 * j + i) / 10 = j := by omega
      have hi' : (10 * j + i) % 10 = i := by omega
      simp only [State.txd, htx, hbit, hj, hb, hi']
    rw [htxd]
    refine ⟨fun h => by simp [characterBit, h], fun n h hn => ?_, fun h => by simp [characterBit, h]⟩
    subst h
    simp only [characterBit, Nat.succ_ne_zero, if_false, Nat.add_sub_cancel]
    exact if_pos (by omega)

end Sys2Proof.Machine

namespace Sys2Proof.Machine

/-! ## The frame check (R153) -/

/-- While the top bit of the register is clear nothing is fed back. -/
theorem crcShift_toNat {r : BitVec 16} (h : r.toNat < 32768) : (crcShift r).toNat = 2 * r.toNat := by
  have hmsb : r.msb = false := by
    rw [BitVec.msb_eq_decide]
    simpa using h
  rw [crcShift, hmsb]
  simp only [Bool.false_eq_true, if_false, BitVec.toNat_shiftLeft, Nat.shiftLeft_eq]
  omega

/-- A number whose high byte is taken out of it leaves its low byte. -/
theorem xor_high (n : Nat) : n ^^^ (n / 256 * 256) = n % 256 := by
  have hlow : (n ^^^ (n / 256 * 256)) % 2 ^ 8 = n % 256 := by
    rw [Nat.xor_mod_two_pow]
    simp
  have hhigh : (n ^^^ (n / 256 * 256)) / 2 ^ 8 = 0 := by
    rw [Nat.xor_div_two_pow]
    simp
  omega

/-- The register once its own high byte has entered it: its low byte, moved up. -/
theorem crcByte_high_toNat (r : BitVec 16) : (crcByte r (BitVec.ofNat 8 (r.toNat / 256))).toNat = r.toNat % 256 * 256 := by
  have hr := r.isLt
  have hcleared : (r ^^^ ((BitVec.ofNat 8 (r.toNat / 256)).setWidth 16 <<< 8)).toNat = r.toNat % 256 := by
    rw [BitVec.toNat_xor, BitVec.toNat_shiftLeft, BitVec.toNat_setWidth, BitVec.toNat_ofNat, Nat.shiftLeft_eq]
    have hhigh : r.toNat / 256 % 2 ^ 8 % 2 ^ 16 * 2 ^ 8 % 2 ^ 16 = r.toNat / 256 * 256 := by omega
    rw [hhigh, xor_high]
  unfold crcByte
  dsimp only
  generalize r ^^^ ((BitVec.ofNat 8 (r.toNat / 256)).setWidth 16 <<< 8) = m at hcleared
  have h1 := crcShift_toNat (r := m) (by omega)
  have h2 := crcShift_toNat (r := crcShift m) (by omega)
  have h3 := crcShift_toNat (r := crcShift (crcShift m)) (by omega)
  have h4 := crcShift_toNat (r := crcShift (crcShift (crcShift m))) (by omega)
  have h5 := crcShift_toNat (r := crcShift (crcShift (crcShift (crcShift m)))) (by omega)
  have h6 := crcShift_toNat (r := crcShift (crcShift (crcShift (crcShift (crcShift m))))) (by omega)
  have h7 := crcShift_toNat (r := crcShift (crcShift (crcShift (crcShift (crcShift (crcShift m)))))) (by omega)
  have h8 := crcShift_toNat (r := crcShift (crcShift (crcShift (crcShift (crcShift (crcShift (crcShift m)))))))
    (by omega)
  omega

/-- A register that holds nothing but the byte that enters it ends at 0. -/
theorem crcByte_self (b : Byte) : crcByte (b.setWidth 16 <<< 8) b = 0 := by
  unfold crcByte
  rw [BitVec.xor_self]
  rfl

/-- A register takes itself to 0 when its two bytes enter it, the high one first. -/
theorem crcFrom_own_bytes (r : BitVec 16) :
    crcFrom r [BitVec.ofNat 8 (r.toNat / 256), BitVec.ofNat 8 r.toNat] = 0 := by
  have hmoved : crcByte r (BitVec.ofNat 8 (r.toNat / 256)) = (BitVec.ofNat 8 r.toNat).setWidth 16 <<< 8 := by
    refine BitVec.eq_of_toNat_eq ?_
    rw [crcByte_high_toNat, BitVec.toNat_shiftLeft, BitVec.toNat_setWidth, BitVec.toNat_ofNat, Nat.shiftLeft_eq]
    omega
  show crcByte (crcByte r _) _ = 0
  rw [hmoved, crcByte_self]

/-- Settles O30: after the covered bytes the register takes its own two bytes. -/
theorem checkRegisterEndsAtZero : Obligations.CheckRegisterEndsAtZero := by
  unfold Obligations.CheckRegisterEndsAtZero
  refine ⟨Tests.test_crc_of_nine_digits, fun bs => ?_⟩
  have happend (more : List Byte) : crcFrom 0xFFFF (bs ++ more) = crcFrom (crc bs) more := List.foldl_append
  rw [happend, crcFrom_own_bytes]

/-! ## The receiver, byte by byte (R154, R155) -/

/-- `s` with its receiver in the state `r`, and the inter-byte timing restarted. -/
def State.listening (s : State) (r : Receiver) : State := s.setLink { s.link with receiver := r, byteTicks := 0 }

theorem State.listening_listening (s : State) (r r' : Receiver) : (s.listening r).listening r' = s.listening r' := rfl

section
variable {s : State} {b : Byte} {stop : Bool} (hrun : s.time.phase = .running)
include hrun

/-- A byte that completes no frame. -/
theorem exec_byte_of_only {r : Receiver} (h : s.link.receiver.take b stop = .only r) :
    exec (.byteTaken b stop false) s = .next (s.listening r) := by
  refine congrArg Host.Outcome.next ((if_pos (by simp [s.isRunning_iff.mpr hrun])).trans ?_)
  simp only [h]
  rfl

/-- A byte that completes a frame whose check matches. -/
theorem exec_byte_of_complete {r : Receiver} {bs : List Byte}
    (h : s.link.receiver.take b stop = { receiver := r, complete := some bs }) :
    exec (.byteTaken b stop false) s = .next ((s.listening r).handFrame bs) := by
  refine congrArg Host.Outcome.next ((if_pos (by simp [s.isRunning_iff.mpr hrun])).trans ?_)
  simp only [h]
  rfl

end

theorem receivingTakes_length {len : Byte} (h : len.toNat ≤ 120) : receivingTakes [] len true = .only (.receiving [len]) := by
  simp [receivingTakes, h]

theorem receivingTakes_short {len : Byte} {taken : List Byte} (b : Byte)
    (h : (len :: taken).length + 1 < afterSync len) :
    receivingTakes (len :: taken) b true = .only (.receiving (len :: taken ++ [b])) := by
  simp only [receivingTakes, Bool.not_true, Bool.false_eq_true, if_false]
  exact if_pos (by simpa using h)

theorem receivingTakes_last {len : Byte} {taken : List Byte} (b : Byte) (h : (len :: taken).length + 1 = afterSync len)
    (hcheck : checkMatches (len :: taken ++ [b]) = true) :
    receivingTakes (len :: taken) b true = { receiver := .hunting, complete := some (len :: taken ++ [b]) } := by
  simp only [receivingTakes, Bool.not_true, Bool.false_eq_true, if_false, hcheck, if_true]
  exact if_neg (by simpa using h.ge)

/-- The two check bytes match exactly if they hold the check of the covered bytes (R153). -/
theorem checkMatches_iff (covered : List Byte) (hi lo : Byte) :
    checkMatches (covered ++ [hi, lo]) = true ↔ hi.toNat * 256 + lo.toNat = (crc covered).toNat := by
  have hlength : (covered ++ [hi, lo]).length - 2 = covered.length := by simp
  have hcrc := (crc covered).isLt
  rw [checkMatches, hlength, List.drop_left, List.take_left, beq_iff_eq, crcBytes, be16, List.cons.injEq, List.cons.injEq,
    ← BitVec.toNat_inj, ← BitVec.toNat_inj, byte, byte, BitVec.toNat_ofNat, BitVec.toNat_ofNat]
  simp only [and_true]
  have := hi.isLt
  have := lo.isLt
  omega

theorem checkMatches_own (covered : List Byte) : checkMatches (covered ++ crcBytes covered) = true := by
  have hcrc := (crc covered).isLt
  refine (checkMatches_iff ..).mpr ?_
  rw [byte_toNat_of_lt (by omega), byte, BitVec.toNat_ofNat]
  omega

/-- At the last byte a frame whose check does not match is discarded (R154). -/
theorem receivingTakes_mismatch {len : Byte} {taken : List Byte} (b : Byte)
    (h : (len :: taken).length + 1 = afterSync len) (hcheck : checkMatches (len :: taken ++ [b]) ≠ true) :
    receivingTakes (len :: taken) b true = .only .hunting := by
  simp only [receivingTakes, Bool.not_true, Bool.false_eq_true, if_false]
  exact (if_neg (by simpa using h.ge)).trans (if_neg hcheck)

section
variable {f : Host.Outcome State Fault Refusal → Byte → Host.Outcome State Fault Refusal}
  (hf : ∀ x b, f (.next x) b = exec (.byteTaken b true false) x)
include hf

/-- The bytes of a frame after LENGTH and before the last are gathered. -/
theorem foldl_receiving {s : State} (hrun : s.time.phase = .running) {len : Byte} (bs : List Byte) : ∀ taken : List Byte,
    (len :: taken).length + bs.length < afterSync len →
    bs.foldl f (.next (s.listening (.receiving (len :: taken)))) = .next (s.listening (.receiving (len :: taken ++ bs))) := by
  induction bs with
  | nil => simp
  | cons b bs ih =>
    intro taken h
    rw [List.length_cons (a := b)] at h
    have htake : (s.listening (.receiving (len :: taken))).link.receiver.take b true =
        .only (.receiving (len :: taken ++ [b])) := receivingTakes_short b (by omega)
    rw [List.foldl_cons, hf, exec_byte_of_only (s := s.listening _) hrun htake]
    have hnext := ih (taken ++ [b]) (by simp only [List.length_cons, List.length_append, List.length_nil] at h ⊢; omega)
    simpa [State.listening_listening] using hnext

/-- A whole request frame, taken byte by byte from HUNTING, is handed to the service logic (R154). -/
theorem foldl_requestFrame {s : State} (hrun : s.time.phase = .running) (hhunting : s.link.receiver = .hunting)
    (kind tag : Byte) {p : List Byte} (hp : p.length ≤ 120) :
    (requestFrame kind tag p).foldl f (.next s) = .next ((s.listening .hunting).handFrame
      ((BitVec.ofNat 8 p.length :: kind :: tag :: p) ++ crcBytes (BitVec.ofNat 8 p.length :: kind :: tag :: p))) := by
  have hlen : (BitVec.ofNat 8 p.length).toNat = p.length := Nat.mod_eq_of_lt (by omega)
  have hafter : afterSync (BitVec.ofNat 8 p.length) = p.length + 5 := by rw [afterSync, hlen]
  let covered : List Byte := BitVec.ofNat 8 p.length :: kind :: tag :: p
  let gathered : List Byte := kind :: tag :: p ++ [byte ((crc covered).toNat / 256)]
  have hframe : requestFrame kind tag p =
      0xC3 :: BitVec.ofNat 8 p.length :: (gathered ++ [byte (crc covered).toNat]) := by
    simp [requestFrame, gathered, covered, byte]
  have hgathered : gathered.length = p.length + 3 := by simp [gathered]
  have hall : BitVec.ofNat 8 p.length :: gathered ++ [byte (crc covered).toNat] = covered ++ crcBytes covered := by
    simp [gathered, covered, crcBytes, be16]
  have hsync : s.link.receiver.take 0xC3 true = .only (.receiving []) := by
    rw [hhunting]
    rfl
  have hlength : (s.listening (.receiving [])).link.receiver.take (BitVec.ofNat 8 p.length) true =
      .only (.receiving [BitVec.ofNat 8 p.length]) := receivingTakes_length (by omega)
  have hlast : (s.listening (.receiving (BitVec.ofNat 8 p.length :: gathered))).link.receiver.take
      (byte (crc covered).toNat) true = { receiver := .hunting, complete := some (covered ++ crcBytes covered) } :=
    hall ▸ receivingTakes_last _ (by rw [List.length_cons]; omega) (hall ▸ checkMatches_own covered)
  rw [hframe, List.foldl_cons, hf, exec_byte_of_only hrun hsync, List.foldl_cons, hf,
    exec_byte_of_only (s := s.listening _) hrun hlength, List.foldl_append]
  have hmiddle := foldl_receiving hf hrun (len := BitVec.ofNat 8 p.length) gathered []
    (by rw [hafter, hgathered, List.length_singleton]; omega)
  rw [State.listening_listening, hmiddle, List.foldl_cons, hf]
  exact exec_byte_of_complete (s := s.listening _) hrun hlast

end

/-- The bytes of a frame name its KIND, its TAG and its payload (R151). -/
theorem State.handFrame_of_none {s : State} (h : s.link.service = none) (len kind tag hi lo : Byte) (p : List Byte) :
    s.handFrame ((len :: kind :: tag :: p) ++ [hi, lo]) = s.enterService kind tag p := by
  simp [State.handFrame, h]

theorem State.handFrame_of_some {s : State} {r : Service} (h : s.link.service = some r) (bs : List Byte) :
    s.handFrame bs = s.dropFrame := by
  simp [State.handFrame, h]

/-- Settles O31: the bytes of the frame are gathered, its check matches, and it is handed on. -/
theorem requestFrameEntersService : Obligations.RequestFrameEntersService := by
  unfold Obligations.RequestFrameEntersService
  intro s kind tag p ⟨hrun, hnone⟩ hhunting hp
  refine (foldl_requestFrame (fun _ _ => rfl) hrun hhunting kind tag hp).trans (congrArg Host.Outcome.next ?_)
  exact State.handFrame_of_none (s := s.listening .hunting) hnone ..

/-- Settles O32: each of these bytes completes no frame and leaves the receiver HUNTING. -/
theorem discardedBytesLeaveNoTrace : Obligations.DiscardedBytesLeaveNoTrace := by
  unfold Obligations.DiscardedBytesLeaveNoTrace
  intro s b taken hrun
  refine ⟨fun stop => ?_, fun stop hhunting hb => ?_, fun hreceiving => ?_, fun hreceiving hlong => ?_,
    fun len rest h hreceiving hlength hcheck => ?_, fun hreceiving hticks => ?_⟩
  · exact congrArg Host.Outcome.next (if_neg (by simp))
  · refine exec_byte_of_only (r := .hunting) hrun ?_
    rw [hhunting]
    refine if_neg fun h => ?_
    rw [Bool.and_eq_true, beq_iff_eq] at h
    rcases hb with hb | hb
    · exact hb h.2
    · exact Bool.false_ne_true (hb ▸ h.1)
  · refine exec_byte_of_only (r := .hunting) hrun ?_
    rw [hreceiving]
    rfl
  · refine exec_byte_of_only (r := .hunting) hrun ?_
    rw [hreceiving]
    simp [Receiver.take, receivingTakes, Nat.not_le.mpr hlong]
  · refine exec_byte_of_only (r := .hunting) hrun ?_
    rw [hreceiving]
    refine receivingTakes_mismatch b (by simp [afterSync, hlength]) fun hmatch => hcheck ?_
    exact (checkMatches_iff (len :: rest) h b).mp (by simpa using hmatch)
  · refine congrArg Host.Outcome.next (if_pos ?_)
    simp [s.isRunning_iff.mpr hrun, Link.byteExpiryDue, hreceiving, hticks]

/-! ## Frames dropped, refused or dispatched (R156 to R158) -/

theorem knownKind_eq_false {kind : Byte} (h : ∀ k : RequestKind, k.code ≠ kind) : knownKind kind = false := by
  simp [knownKind, h]

/-- What the row of a KIND that names no request kind does, by what becomes of its frame (R158). -/
theorem exec_unknownKind {s : State} {kind : Byte} (h : ∀ k : RequestKind, k.code ≠ kind) (tag : Byte) (p : List Byte)
    (hrdy : Bool) :
    (s.entry kind tag p = .taken → exec (.requestUnknownKind kind tag p hrdy) s =
      .next (s.unoccupied.replied kind tag p .answered .refusedKind [] hrdy)) ∧
    (s.entry kind tag p = .dropped → exec (.requestUnknownKind kind tag p hrdy) s = .next s.dropFrame) := by
  simp only [exec, execRequestUnknownKind, knownKind_eq_false h, Bool.false_eq_true, if_false, Host.Outcome.next.injEq]
  refine ⟨fun e => ?_, fun e => ?_⟩ <;> simp only [e]
  exact s.enterService_answer kind tag p .refusedKind [] hrdy

/-- Settles O33: a request in service as received is dispatched as if it came then, another frame is dropped, and with none
in service a frame is refused as its KIND and LENGTH say. -/
theorem framesDroppedOrRefused : Obligations.FramesDroppedOrRefused := by
  unfold Obligations.FramesDroppedOrRefused
  refine ⟨fun s r hrun hservice => ⟨?_, fun k tag p hrdy => ⟨fun hr => ?_, fun hr => ?_⟩,
    fun kind tag p hrdy hkind => ⟨fun hr => ?_, fun hr => ?_⟩⟩, fun s r kind tag p hrun hservice hhunting hp => ?_,
    fun s hs => ⟨fun kind tag p hrdy hkind => ?_, fun k tag p hrdy hlength => ?_⟩⟩
  · exact congrArg Host.Outcome.next (if_pos (by simp [s.isRunning_iff.mpr hrun, hservice]))
  · subst hr
    rw [exec_command, exec_command]
    exact congrArg Host.Outcome.next (State.serve_entered hrun hservice _ hrdy)
  · rw [exec_command]
    exact congrArg Host.Outcome.next (s.serve_dropped k _ tag p hrdy r hrun hservice hr)
  · subst hr
    have htaken : s.entry kind tag p = .taken := by simp [State.entry, s.isRunning_iff.mpr hrun, hservice]
    refine ((exec_unknownKind hkind tag p hrdy).1 htaken).trans ?_
    exact ((exec_unknownKind (s := s.unoccupied) hkind tag p hrdy).1
      (s.unoccupied.entry_taken _ _ _ (State.unoccupied_canServe hrun))).symm
  · refine (exec_unknownKind hkind tag p hrdy).2 ?_
    simp [State.entry, s.isRunning_iff.mpr hrun, hservice, hr]
  · refine (foldl_requestFrame (fun _ _ => rfl) hrun hhunting kind tag hp).trans (congrArg Host.Outcome.next ?_)
    exact State.handFrame_of_some (s := s.listening .hunting) hservice _
  · have hreplied := (exec_unknownKind hkind tag p hrdy).1 (s.entry_taken _ _ _ hs)
    rwa [State.unoccupied_of_none hs.2] at hreplied
  · rw [exec_command, s.serve_short k _ tag p hrdy hs hlength]

/-! ## The reply (R156, R160, R162) -/

theorem State.replyOver_iff {s : State} {bytes : List Byte} (h : s.link.tx = .sending bytes) :
    s.replyOver = true ↔ bytes.length * 10 * 1000000 ≤ s.link.txTicks * bitRate s.time.rate := by
  have hrate : 0 < bitRate s.time.rate := by
    unfold bitRate
    repeat' split
    all_goals decide
  simp only [State.replyOver, h]
  exact decide_eq_true_iff.trans (ceilDiv_le_iff hrate)

/-- Settles O34: HRDY starts the reply that waits, and the end of a reply frees the service, with the effects of a RESTART. -/
theorem replyStartsAndEndsTheService : Obligations.ReplyStartsAndEndsTheService := by
  unfold Obligations.ReplyStartsAndEndsTheService
  refine ⟨fun s => ⟨fun kind tag status body hwaits => ?_, fun hnone => ?_⟩,
    fun s r bytes hrun hservice htx hticks => ?_⟩
  · simp only [exec, execHrdyAsserted, hwaits]
    rfl
  · refine congrArg Host.Outcome.next ?_
    split
    · next r hr => exact absurd hr (hnone r)
    · rfl
    · rfl
  · have hstep : exec .replySent s = .next s.endReply :=
      congrArg Host.Outcome.next (if_pos (by simp [s.isRunning_iff.mpr hrun, (s.replyOver_iff htx).mpr hticks]))
    rw [hstep]
    refine ⟨fun hstage => ?_, fun hstage => ?_⟩
    · simp [State.endReply, State.restartInService, hservice, hstage, State.setLink]
    · have hrestart : s.restartInService = true := by simp [State.restartInService, hservice, hstage]
      rw [State.endReply, if_pos hrestart]
      rfl

end Sys2Proof.Machine

namespace Sys2Proof.Machine

/-! ## A refused request has changed nothing (R159) -/

/-- What an owner leaves, by its answer: nothing with a refusal, and never the blocks that no request reaches. -/
theorem Taken.answer_cases {s x : State} {k : RequestKind} {a : Answer} (h : Taken s k x a) :
    (∃ status body, status ≠ .done ∧ x = s ∧ a = .now status body) ∨ (∃ body, a = .now .done body) ∨
      (k = .restart ∧ x = s ∧ a = .thenRestart) ∨
      (k = .captureHold ∧ s.capture.state = .armed ∧ x = s.setCapture { s.capture with holdPending := true } ∧
        a = .wait) := by
  cases h with
  | refused _ status body h => exact .inl ⟨status, body, h, rfl, rfl⟩
  | pended h => exact .inr (.inr (.inr ⟨rfl, h, rfl, rfl⟩))
  | restarting => exact .inr (.inr (.inl ⟨rfl, rfl, rfl⟩))
  | _ => exact .inr (.inl ⟨_, rfl⟩)

/-- Settles O47: an owner that refuses leaves the state as it was, and no owner reaches the other blocks. -/
theorem refusedRequestsChangeNothing : Obligations.RefusedRequestsChangeNothing := by
  unfold Obligations.RefusedRequestsChangeNothing
  intro s k tag p hrdy hs
  obtain ⟨x, a, hx, hlink, e⟩ := State.serve_taken hs k tag p hrdy
  rw [exec_command, e]
  rcases hx.answer_cases with ⟨status, body, hstatus, rfl, rfl⟩ | ⟨body, rfl⟩ | ⟨rfl, rfl, rfl⟩ |
    ⟨rfl, harmed, rfl, rfl⟩
  · exact .inl ⟨status, body, hstatus, rfl⟩
  · obtain ⟨htime, htracker, hscanner, hflight, hpending, happlied⟩ := hx.frame
    exact .inr (.inl ⟨x, body, hlink, htime, htracker, hscanner, happlied, hflight, hpending, rfl⟩)
  · exact .inr (.inr (.inl ⟨rfl, rfl⟩))
  · exact .inr (.inr (.inr ⟨rfl, harmed, rfl⟩))

end Sys2Proof.Machine

namespace Sys2Proof.Machine

/-! ## More fields of a body (R173) -/

section
variable {b : List Byte} {x k : Nat} {rows : List (Nat × Nat × Nat)}

theorem laidOut_byte (hb : laidOut b k rows) : laidOut (byte x :: b) (1 + k) ((0, 1, x) :: rows.map (rowFrom 1)) :=
  laidOut_field (f := [byte x]) (fun hx => by simpa [fieldAt] using byte_toNat_of_lt hx) hb

theorem laidOut_beInt {i : Int} (hb : laidOut b k rows) :
    laidOut (beInt i ++ b) (2 + k) ((0, 2, twosComplement i) :: rows.map (rowFrom 2)) := by
  have hvalue : (BitVec.ofInt 16 i).toNat = twosComplement i := BitVec.toNat_ofInt ..
  rw [beInt, hvalue]
  exact laidOut_be16 hb

theorem yesNo_toNat (v : Bool) : (yesNo v).toNat = yesBit v := by cases v <;> rfl

theorem laidOut_yesNo {v : Bool} (hb : laidOut b k rows) :
    laidOut (yesNo v :: b) (1 + k) ((0, 1, yesBit v) :: rows.map (rowFrom 1)) :=
  laidOut_code (yesNo_toNat v) hb

/-- A table that leaves out some rows says less. -/
theorem laidOut_filter (p : Nat × Nat × Nat → Bool) (hb : laidOut b k rows) : laidOut b k (rows.filter p) :=
  ⟨hb.1, fun o n y hmem => hb.2 o n y (List.mem_of_mem_filter hmem)⟩

end

theorem bits_two (a b : Bool) : bits [a, b] = yesBit a + 2 * yesBit b := by
  simp only [bits, yesBit]
  omega

theorem bits_four (a b c d : Bool) : bits [a, b, c, d] = yesBit a + 2 * yesBit b + 4 * yesBit c + 8 * yesBit d := by
  simp only [bits, yesBit]
  omega

/-! ## The bodies of the requests that read (section 11.4) -/

theorem laidOut_trackerBody {s : State} {c : Cycle} (hc : s.scanner.cycle = some c) :
    laidOut (trackerBody s) 15 [(0, 1, s.tracker.state.code.toNat), (1, 2, s.tracker.pGood.getD 0), (3, 2, c.ps),
      (5, 1, s.tracker.goodRun), (6, 1, s.tracker.hold), (7, 4, s.scanner.cycleNumber.toNat),
      (11, 4, s.cond.epochNumber.toNat)] := by
  have h := laidOut_code (c := s.tracker.state.code) rfl (laidOut_be16 (x := s.tracker.pGood.getD 0) (laidOut_be16 (x := c.ps)
    (laidOut_byte (x := s.tracker.goodRun) (laidOut_byte (x := s.tracker.hold)
      (laidOut_be32 (x := s.scanner.cycleNumber.toNat) (laidOut_be32 (x := s.cond.epochNumber.toNat) laidOut_nil))))))
  simpa [trackerBody, hc, rowFrom] using h

theorem laidOut_channelReplyBody (s : State) (i : Fin 16) : let r := s.cond.channels.get i
    laidOut (channelReplyBody s i) 19 [(0, 1, i.val), (1, 1, r.state.code.toNat), (2, 1, r.stuckRun),
      (3, 1, r.cleanRun), (4, 2, r.lastCq), (6, 1, r.count), (7, 1, yesBit r.clipSeen + 2 * yesBit r.degradedSeen),
      (8, 1, s.cond.epochCycles), (9, 2, r.result.mq), (11, 2, twosComplement r.result.current), (13, 1, r.result.k),
      (14, 1, yesBit r.result.held + 2 * yesBit r.result.clipped + 4 * yesBit r.result.degraded
        + 8 * yesBit r.result.neverValid),
      (15, 2, match r.lastValid with | some v => v.1 | none => 0xFFFF),
      (17, 2, match r.lastValid with | some v => twosComplement v.2 | none => 0)] := by
  intro r
  have hvalid : laidOut (validBytes r.lastValid) 4 [(0, 2, match r.lastValid with | some v => v.1 | none => 0xFFFF),
      (2, 2, match r.lastValid with | some v => twosComplement v.2 | none => 0)] := by
    cases r.lastValid with
    | none => exact laidOut_be16 (x := 0xFFFF) (laidOut_be16 (x := 0) laidOut_nil)
    | some v => simpa [validBytes, rowFrom] using laidOut_be16 (x := v.1) (laidOut_beInt (i := v.2) laidOut_nil)
  have h := laidOut_byte (x := i.val) (laidOut_code (c := r.state.code) rfl (laidOut_byte (x := r.stuckRun)
    (laidOut_byte (x := r.cleanRun) (laidOut_be16 (x := r.lastCq) (laidOut_byte (x := r.count)
      (laidOut_byte (x := bits [r.clipSeen, r.degradedSeen]) (laidOut_byte (x := s.cond.epochCycles)
        (laidOut_be16 (x := r.result.mq) (laidOut_beInt (i := r.result.current) (laidOut_byte (x := r.result.k)
          (laidOut_byte (x := bits [r.result.held, r.result.clipped, r.result.degraded, r.result.neverValid])
            hvalid)))))))))))
  rw [bits_two, bits_four] at h
  simpa [channelReplyBody, rowFrom, ChannelRecord.marksByte, ChannelResult.flagsByte, bits_two, bits_four, r] using h

theorem laidOut_transformerReplyBody (s : State) (u : Fin 8) : let x := s.slots.get u
    laidOut (transformerReplyBody s u) 22 [(0, 1, u.val), (1, 1, yesBit (s.store.applied.transformers.get u).defined),
      (2, 2, twosComplement x.cur.ieff),
      (4, 1, yesBit x.cur.held + 2 * yesBit x.cur.clipped + 4 * yesBit x.cur.degraded), (5, 2, x.thermal.target),
      (7, 2, x.thermal.rise), (9, 4, x.thermal.exposure), (13, 1, x.grade.level.val), (14, 1, x.grade.prevC.val),
      (15, 1, x.grade.prevR.val), (16, 1, x.grade.prevE.val), (17, 1, x.grade.up), (18, 1, x.grade.down),
      (19, 1, x.signal.state.code.toNat), (20, 1, x.signal.flash.val), (21, 1, x.signal.acked.val)] := by
  intro x
  have h := laidOut_byte (x := u.val) (laidOut_yesNo (v := s.isDefined u) (laidOut_beInt (i := x.cur.ieff)
    (laidOut_byte (x := bits [x.cur.held, x.cur.clipped, x.cur.degraded]) (laidOut_be16 (x := x.thermal.target)
      (laidOut_be16 (x := x.thermal.rise) (laidOut_be32 (x := x.thermal.exposure) (laidOut_byte (x := x.grade.level.val)
        (laidOut_byte (x := x.grade.prevC.val) (laidOut_byte (x := x.grade.prevR.val) (laidOut_byte (x := x.grade.prevE.val)
          (laidOut_byte (x := x.grade.up) (laidOut_byte (x := x.grade.down) (laidOut_code (c := x.signal.state.code) rfl
            (laidOut_byte (x := x.signal.flash.val) (laidOut_byte (x := x.signal.acked.val) laidOut_nil)))))))))))))))
  rw [bits_three] at h
  simpa [transformerReplyBody, rowFrom, SlotCurrent.flagsByte, bits_three, State.isDefined, x] using h

theorem laidOut_captureInfoBody (c : Capture) :
    laidOut (captureInfoBody c) 15 [(0, 1, c.state.code.toNat), (1, 1, c.ring.length), (2, 1, c.preKept), (3, 1, c.post),
      (4, 1, match c.record with | some r => r.cause.code.toNat | none => 0),
      (5, 1, match c.record with
        | some r => (match r.cause with | .level u => u.val | .step i => i.val | .request => 0xFF)
        | none => 0xFF),
      (6, 4, match c.record with | some r => r.cycle.toNat | none => 0),
      (10, 4, match c.record with | some r => r.epoch.toNat | none => 0), (14, 1, c.missed)] := by
  have hrecord {code subject cycle epoch : Nat} {f1 f2 : Byte} (h1 : f1.toNat = code) (h2 : f2.toNat = subject)
      (hbytes : recordBytes c.record = [f1, f2] ++ be32 cycle ++ be32 epoch) :
      laidOut (captureInfoBody c) 15 [(0, 1, c.state.code.toNat), (1, 1, c.ring.length), (2, 1, c.preKept),
        (3, 1, c.post), (4, 1, code), (5, 1, subject), (6, 4, cycle), (10, 4, epoch), (14, 1, c.missed)] := by
    have h := laidOut_code (c := c.state.code) rfl (laidOut_byte (x := c.ring.length) (laidOut_byte (x := c.preKept)
      (laidOut_byte (x := c.post) (laidOut_code h1 (laidOut_code h2 (laidOut_be32 (x := cycle)
        (laidOut_be32 (x := epoch) (laidOut_byte (x := c.missed) laidOut_nil))))))))
    simpa [captureInfoBody, hbytes, rowFrom] using h
  cases hr : c.record with
  | none => exact hrecord rfl rfl (by rw [hr]; rfl)
  | some r => exact hrecord rfl r.cause.subject_toNat (by rw [hr]; rfl)

/-- A byte for each slot. -/
theorem laidOut_slots (f : Fin 8 → Nat) {b : List Byte} {k : Nat} {rows : List (Nat × Nat × Nat)} (hb : laidOut b k rows) :
    laidOut ((List.finRange 8).map (fun u => byte (f u)) ++ b) (8 + k)
      ((List.finRange 8).map (fun u => (u.val, 1, f u)) ++ rows.map (rowFrom 8)) := by
  have h := laidOut_byte (x := f 0) (laidOut_byte (x := f 1) (laidOut_byte (x := f 2) (laidOut_byte (x := f 3)
    (laidOut_byte (x := f 4) (laidOut_byte (x := f 5) (laidOut_byte (x := f 6) (laidOut_byte (x := f 7) hb)))))))
  have hshift : rowFrom 1 ∘ rowFrom 1 ∘ rowFrom 1 ∘ rowFrom 1 ∘ rowFrom 1 ∘ rowFrom 1 ∘ rowFrom 1 ∘ rowFrom 1 =
      rowFrom 8 := funext fun row => Prod.ext (by simp only [Function.comp, rowFrom]; omega) rfl
  have hk : 1 + (1 + (1 + (1 + (1 + (1 + (1 + (1 + k))))))) = 8 + k := by omega
  simpa [List.finRange_succ, rowFrom, hshift, hk] using h

theorem byte_toNat_self (c : Byte) : byte c.toNat = c := by simp [byte]

/-- Every field of STATUS, its two sets written as numbers. -/
theorem laidOut_statusBody_all (s : State) : laidOut (statusBody s) 41
    ([(0, 1, 0x4E), (1, 1, 1), (2, 1, s.time.rate.toNat), (3, 1, yesBit (s.time.fnom == .hz60)),
        (4, 1, s.time.phase.code.toNat), (5, 1, s.tracker.state.code.toNat), (6, 4, s.scanner.cycleNumber.toNat),
        (10, 4, s.cond.epochNumber.toNat), (14, 1, bits ((List.finRange 8).map s.isDefined))]
      ++ (List.finRange 8).map (fun u => (15 + u.val, 1, (s.slots.get u).grade.level.val))
      ++ (List.finRange 8).map (fun u => (23 + u.val, 1, (s.slots.get u).signal.state.code.toNat))
      ++ [(31, 1, yesBit s.hornRequest), (32, 1, yesBit s.ann.silenced), (33, 1, s.cond.selfCheck.code.toNat),
        (34, 1, s.cond.verdict.code.toNat), (35, 2, bits ((List.finRange 16).map s.channelFaulty)),
        (37, 1, s.capture.state.code.toNat), (38, 1, yesBit s.store.isSealed), (39, 1, s.notices.queue.length),
        (40, 1, yesBit s.notices.lost)]) := by
  have hfnom : (fnomCode s.time.fnom).toNat = yesBit (s.time.fnom == .hz60) := by cases s.time.fnom <;> rfl
  have hcodes : (List.finRange 8).map (fun u => (s.slots.get u).signal.state.code) =
      (List.finRange 8).map (fun u => byte (s.slots.get u).signal.state.code.toNat) := by simp only [byte_toNat_self]
  have htail := laidOut_yesNo (v := s.hornRequest) (laidOut_yesNo (v := s.ann.silenced)
    (laidOut_code (c := s.cond.selfCheck.code) rfl (laidOut_code (c := s.cond.verdict.code) rfl
      (laidOut_be16 (x := bits ((List.finRange 16).map s.channelFaulty)) (laidOut_code (c := s.capture.state.code) rfl
        (laidOut_yesNo (v := s.store.isSealed) (laidOut_byte (x := s.notices.queue.length)
          (laidOut_yesNo (v := s.notices.lost) laidOut_nil))))))))
  have h := laidOut_code (c := Config.familyCode) (x := 0x4E) rfl (laidOut_code (c := Config.revision) (x := 1) rfl
    (laidOut_byte (x := s.time.rate.toNat) (laidOut_code hfnom (laidOut_code (c := s.time.phase.code) rfl
      (laidOut_code (c := s.tracker.state.code) rfl (laidOut_be32 (x := s.scanner.cycleNumber.toNat)
        (laidOut_be32 (x := s.cond.epochNumber.toNat) (laidOut_byte (x := bits ((List.finRange 8).map s.isDefined))
          (laidOut_slots (fun u => (s.slots.get u).grade.level.val)
            (laidOut_slots (fun u => (s.slots.get u).signal.state.code.toNat) htail))))))))))
  rw [statusBody, hcodes]
  simpa [rowFrom, Function.comp_def, ← Nat.add_assoc] using h

theorem testBit_bits_map {n : Nat} (f : Fin n → Bool) (i : Fin n) : (bits ((List.finRange n).map f)).testBit i.val = f i := by
  rw [testBit_bits _ (by simp)]
  simp

theorem channelOf_val (i : Fin 16) : channelOf i.val = some i := dif_pos i.isLt

theorem channelOf_of_ge {n : Nat} (h : 16 ≤ n) : channelOf n = none := dif_neg (Nat.not_lt.mpr h)

/-- Settles O35: each body is written field by field as its table says, and each of these requests is answered with it. -/
theorem readsAreAnsweredAndChangeNothing : Obligations.ReadsAreAnsweredAndChangeNothing := by
  unfold Obligations.ReadsAreAnsweredAndChangeNothing
  refine ⟨⟨rfl, rfl, rfl, rfl, rfl, rfl, rfl, fun u c => rfl⟩, fun s => ⟨?_, fun u => ?_, fun i => ?_⟩,
    fun s c hc => laidOut_trackerBody hc, laidOut_channelReplyBody, laidOut_transformerReplyBody, laidOut_captureInfoBody,
    fun s tag hrdy hs => ⟨?_, ?_, ?_, fun i => ?_, fun b hb => ?_, fun u => ?_, fun b hb => ?_⟩⟩
  · exact laidOut_filter (fun row => row.1 != 14 && row.1 != 35) (laidOut_statusBody_all s)
  · have hset := (laidOut_statusBody_all s).2 14 1 _ (by simp)
      ((bits_lt ((List.finRange 8).map s.isDefined)).trans_le (by simp))
    rw [hset, testBit_bits_map]
    rfl
  · have hset := (laidOut_statusBody_all s).2 35 2 _ (by simp)
      ((bits_lt ((List.finRange 16).map s.channelFaulty)).trans_le (by simp))
    rw [hset, testBit_bits_map, State.channelFaulty]
    rfl
  · exact congrArg Host.Outcome.next (State.serve_of_owner hs rfl rfl hrdy)
  · exact congrArg Host.Outcome.next (State.serve_of_owner hs rfl rfl hrdy)
  · exact congrArg Host.Outcome.next (State.serve_of_owner hs rfl rfl hrdy)
  · refine congrArg Host.Outcome.next (State.serve_of_owner hs rfl ?_ hrdy)
    have hi : u8 [BitVec.ofNat 8 i.val] 0 = i.val := byte_toNat_channel i
    rw [State.takeReadChannel, hi, channelOf_val]
    rfl
  · refine congrArg Host.Outcome.next (State.serve_of_owner hs rfl ?_ hrdy)
    rw [State.takeReadChannel, u8_cons_zero, channelOf_of_ge hb]
    rfl
  · refine congrArg Host.Outcome.next (State.serve_of_owner hs rfl ?_ hrdy)
    have hu : u8 [BitVec.ofNat 8 u.val] 0 = u.val := byte_toNat_slot u
    rw [State.takeReadTransformer, hu, slotOf_val]
    rfl
  · refine congrArg Host.Outcome.next (State.serve_of_owner hs rfl ?_ hrdy)
    rw [State.takeReadTransformer, u8_cons_zero, slotOf_of_ge hb]
    rfl

end Sys2Proof.Machine

namespace Sys2Proof.Machine

/-! ## READ SETTINGS (R142) -/

/-- The copy that the selector of a READ SETTINGS names: 0 the pending one. -/
def Store.copyOf (x : Store) (copy : Byte) : Settings := if copy = 0 then x.pending else x.applied

section
variable {s : State} {kind index copy : Byte} {tag : Byte} {hrdy : Bool}

/-- The item that the three bytes name. -/
def State.namedItem (s : State) (kind index copy : Byte) : Option (Option (List Byte)) :=
  itemBody (s.store.copyOf copy) kind.toNat index.toNat

theorem State.namedItem_eq : s.namedItem kind index copy = itemBody
    (if u8 [kind, index, copy] 2 = 0 then s.store.pending else s.store.applied) (u8 [kind, index, copy] 0)
      (u8 [kind, index, copy] 1) := by
  have hcopy : (u8 [kind, index, copy] 2 = 0) = (copy = 0) := propext (BitVec.toNat_inj (y := 0#8))
  simp only [State.namedItem, Store.copyOf, hcopy]
  rfl

theorem State.takeReadSettings_of_no_kind (h : s.namedItem kind index copy = none) :
    s.takeReadSettings [kind, index, copy] = (s, refuseField .readSettings 1) := by
  rw [State.namedItem_eq] at h
  simp only [State.takeReadSettings, h]

theorem State.takeReadSettings_of_no_item (h : s.namedItem kind index copy = some none) :
    s.takeReadSettings [kind, index, copy] = (s, refuseField .readSettings 2) := by
  rw [State.namedItem_eq] at h
  simp only [State.takeReadSettings, h]

theorem State.takeReadSettings_of_no_copy {body : List Byte} (h : s.namedItem kind index copy = some (some body))
    (hcopy : 2 ≤ copy.toNat) : s.takeReadSettings [kind, index, copy] = (s, refuseField .readSettings 3) := by
  rw [State.namedItem_eq] at h
  simp only [State.takeReadSettings, h]
  exact if_neg (Nat.not_le.mpr hcopy)

theorem State.takeReadSettings_of_item {body : List Byte} (h : s.namedItem kind index copy = some (some body))
    (hcopy : copy.toNat < 2) : s.takeReadSettings [kind, index, copy] = (s, .now .done body) := by
  rw [State.namedItem_eq] at h
  simp only [State.takeReadSettings, h]
  exact if_pos (Nat.le_of_lt_succ hcopy)

end

/-! ### The items of a copy by kind code and index (section 11.2) -/

section
variable (c : Settings) (n : Nat)

theorem itemBody_of_unknown {k : Nat} (h : k < 0x10 ∨ 0x16 < k) : itemBody c k n = none := by
  unfold itemBody
  simp only [show ∀ m, 0x10 ≤ m → m ≤ 0x16 → k ≠ m from fun m _ _ => by omega, Nat.le_refl, Nat.reduceLeDiff, if_false]

theorem itemBody_general : itemBody c 0x10 n = some (if n = 0 then some (generalBody c.general) else none) := rfl
theorem itemBody_annunciator : itemBody c 0x16 n = some (if n = 0 then some (annunciatorBody c.annunciator) else none) := rfl
theorem itemBody_channel (i : Fin 16) : itemBody c 0x11 i.val = some (some (channelBody i (c.channels.get i))) :=
  congrArg some (dif_pos i.isLt)
theorem itemBody_no_channel (h : 16 ≤ n) : itemBody c 0x11 n = some none := congrArg some (dif_neg (Nat.not_lt.mpr h))
theorem itemBody_transformer (u : Fin 8) :
    itemBody c 0x12 u.val = some (some (transformerBody u (c.transformers.get u))) := congrArg some (dif_pos u.isLt)
theorem itemBody_curve (u : Fin 8) : itemBody c 0x13 u.val = some (some (curveBody u (c.curves.get u))) :=
  congrArg some (dif_pos u.isLt)
theorem itemBody_monitors (u : Fin 8) : itemBody c 0x14 u.val = some (some (monitorsBody u (c.monitors.get u))) :=
  congrArg some (dif_pos u.isLt)
theorem itemBody_no_slot {k : Nat} (hk : k = 0x12 ∨ k = 0x13 ∨ k = 0x14) (h : 8 ≤ n) : itemBody c k n = some none := by
  rcases hk with rfl | rfl | rfl
  all_goals exact congrArg some (dif_neg (Nat.not_lt.mpr h))
theorem itemBody_contact (k : Fin 6) : itemBody c 0x15 k.val = some (some (contactBody k (c.contacts.get k))) :=
  congrArg some (dif_pos k.isLt)
theorem itemBody_no_contact (h : 6 ≤ n) : itemBody c 0x15 n = some none := congrArg some (dif_neg (Nat.not_lt.mpr h))

end

/-- An index that the kind has names an item of any copy. -/
theorem itemBody_of_named (c : Settings) {k n : Nat} (h : (k = 0x10 ∨ k = 0x16) ∧ n = 0 ∨ k = 0x11 ∧ n < 16 ∨
    (k = 0x12 ∨ k = 0x13 ∨ k = 0x14) ∧ n < 8 ∨ k = 0x15 ∧ n < 6) : ∃ body, itemBody c k n = some (some body) := by
  rcases h with ⟨rfl | rfl, rfl⟩ | ⟨rfl, hn⟩ | ⟨rfl | rfl | rfl, hn⟩ | ⟨rfl, hn⟩
  · exact ⟨_, rfl⟩
  · exact ⟨_, rfl⟩
  · exact ⟨_, itemBody_channel c ⟨n, hn⟩⟩
  · exact ⟨_, itemBody_transformer c ⟨n, hn⟩⟩
  · exact ⟨_, itemBody_curve c ⟨n, hn⟩⟩
  · exact ⟨_, itemBody_monitors c ⟨n, hn⟩⟩
  · exact ⟨_, itemBody_contact c ⟨n, hn⟩⟩

/-- Settles O36: the kind, then the index, then the copy selector names the item, or its field is refused. -/
theorem readSettingsReturnsTheNamedItem : Obligations.ReadSettingsReturnsTheNamedItem := by
  unfold Obligations.ReadSettingsReturnsTheNamedItem
  intro s tag hrdy kind index copy hs c n done refused out
  have hcopy : s.store.copyOf copy = c := rfl
  have hanswer {status : ReplyStatus} {body : List Byte}
      (h : ∀ x : State, x.store = s.store → x.takeReadSettings [kind, index, copy] = (x, .now status body)) :
      out = .next (s.answered .readSettings tag [kind, index, copy] status body hrdy) :=
    congrArg Host.Outcome.next (State.serve_of_owner hs rfl (h (s.enterService ..) rfl) hrdy)
  have hitem (x : State) (hx : x.store = s.store) : x.namedItem kind index copy = itemBody c kind.toNat n := by
    rw [State.namedItem, hx, hcopy]
  have hnokind (h : itemBody c kind.toNat n = none) : out = refused 1 :=
    hanswer fun x hx => State.takeReadSettings_of_no_kind ((hitem x hx).trans h)
  have hnoitem (h : itemBody c kind.toNat n = some none) : out = refused 2 :=
    hanswer fun x hx => State.takeReadSettings_of_no_item ((hitem x hx).trans h)
  have hnocopy {body : List Byte} (h : itemBody c kind.toNat n = some (some body)) (hc : 2 ≤ copy.toNat) :
      out = refused 3 := hanswer fun x hx => State.takeReadSettings_of_no_copy ((hitem x hx).trans h) hc
  have hdone {body : List Byte} (hc : copy.toNat < 2) (h : itemBody c kind.toNat n = some (some body)) :
      out = done body := hanswer fun x hx => State.takeReadSettings_of_item ((hitem x hx).trans h) hc
  have hcode (k : Byte) (m : Nat) (hm : k.toNat = m) (h : kind = k) : kind.toNat = m := by rw [h, hm]
  refine ⟨fun h => hnokind (itemBody_of_unknown c n h), fun h hn => hnoitem ?_, fun h hn => hnoitem ?_, fun h hn => hnoitem ?_,
    fun h hn => hnoitem ?_, fun hc h => ?_, fun hc => ⟨fun h hn => hdone hc ?_, fun h hn => hdone hc ?_,
      fun i h hn => hdone hc ?_, fun u h hn => hdone hc ?_, fun u h hn => hdone hc ?_, fun u h hn => hdone hc ?_,
      fun k h hn => hdone hc ?_⟩⟩
  · rcases h with rfl | rfl
    · exact congrArg some (if_neg hn)
    · exact congrArg some (if_neg hn)
  · subst h
    exact itemBody_no_channel c n hn
  · exact itemBody_no_slot c n (h.imp (hcode _ _ rfl) (Or.imp (hcode _ _ rfl) (hcode _ _ rfl))) hn
  · subst h
    exact itemBody_no_contact c n hn
  · obtain ⟨body, hbody⟩ := itemBody_of_named c (k := kind.toNat) (n := n) (by
      rcases h with ⟨h, hn⟩ | ⟨h, hn⟩ | ⟨h, hn⟩ | ⟨h, hn⟩
      · exact .inl ⟨h.imp (hcode _ _ rfl) (hcode _ _ rfl), hn⟩
      · exact .inr (.inl ⟨hcode _ _ rfl h, hn⟩)
      · exact .inr (.inr (.inl ⟨h.imp (hcode _ _ rfl) (Or.imp (hcode _ _ rfl) (hcode _ _ rfl)), hn⟩))
      · exact .inr (.inr (.inr ⟨hcode _ _ rfl h, hn⟩)))
    exact hnocopy hbody hc
  · subst h
    rw [hn]
    rfl
  · subst h
    rw [hn]
    rfl
  · subst h
    rw [hn]
    exact itemBody_channel c i
  · subst h
    rw [hn]
    exact itemBody_transformer c u
  · subst h
    rw [hn]
    exact itemBody_curve c u
  · subst h
    rw [hn]
    exact itemBody_monitors c u
  · subst h
    rw [hn]
    exact itemBody_contact c k

end Sys2Proof.Machine

namespace Sys2Proof.Machine

/-! ## CAPTURE READ (R128) -/

theorem map_mapIdx {α β γ : Type} (g : β → γ) (f : Nat → α → β) (l : List α) :
    (l.mapIdx f).map g = l.mapIdx fun k a => g (f k a) := List.ext_getElem (by simp) (by simp)

/-- The codes of a frame's channel, two bytes each, from an offset on. -/
theorem laidOut_codes (codes : List Code) : laidOut (codes.flatMap fun k => be16 k.toNat) (2 * codes.length)
    (codes.mapIdx fun k code => (2 * k, 2, code.toNat)) := by
  induction codes with
  | nil => exact laidOut_nil
  | cons c codes ih =>
    have h := laidOut_be16 (x := c.toNat) ih
    have hrows : (codes.mapIdx fun k code => (2 * k, 2, code.toNat)).map (rowFrom 2) =
        codes.mapIdx fun k code => (2 * (k + 1), 2, code.toNat) := by
      rw [map_mapIdx]
      exact congrArg (List.mapIdx · codes) (funext fun k => funext fun code => Prod.ext (by simp [rowFrom]; omega) rfl)
    have hlength : 2 + 2 * codes.length = 2 * (c :: codes).length := by rw [List.length_cons]; omega
    rw [hrows, hlength] at h
    simpa [List.mapIdx_cons] using h

theorem laidOut_captureReadBody (f : Frame) (x : FrameChannel) :
    laidOut (captureReadBody f x) (8 + 2 * x.codes.length)
      ([(0, 4, f.number.toNat), (4, 2, f.ps), (6, 1, yesBit f.degraded + 2 * yesBit x.clip), (7, 1, x.chan.val)]
        ++ x.codes.mapIdx (fun k code => (8 + 2 * k, 2, code.toNat))) := by
  have h := laidOut_be32 (x := f.number.toNat) (laidOut_be16 (x := f.ps) (laidOut_byte (x := bits [f.degraded, x.clip])
    (laidOut_byte (x := x.chan.val) (laidOut_codes x.codes))))
  have hlength : 4 + (2 + (1 + (1 + 2 * x.codes.length))) = 8 + 2 * x.codes.length := by omega
  rw [bits_two, hlength] at h
  simpa [captureReadBody, rowFrom, bits_two, map_mapIdx, Function.comp_def, ← Nat.add_assoc] using h

section
variable {s : State} {index chan : Byte}

theorem State.takeCaptureRead_of_recording (h : s.capture.state = .armed ∨ s.capture.state = .triggered) (p : List Byte) :
    s.takeCaptureRead p = (s, refuseState) := by
  rcases h with h | h <;> simp only [State.takeCaptureRead, h]

theorem State.takeCaptureRead_of_no_frame (h : s.capture.state = .held ∨ s.capture.state = .frozen)
    (hindex : s.capture.ring[index.toNat]? = none) :
    s.takeCaptureRead [index, chan] = (s, refuseField .captureRead 1) := by
  have hframe : s.capture.ring[u8 [index, chan] 0]? = none := hindex
  rcases h with h | h <;> simp only [State.takeCaptureRead, h, hframe]

theorem State.takeCaptureRead_of_no_channel (h : s.capture.state = .held ∨ s.capture.state = .frozen) {f : Frame}
    (hindex : s.capture.ring[index.toNat]? = some f)
    (hnone : f.channels.find? (fun x => x.chan.val == chan.toNat) = none) :
    s.takeCaptureRead [index, chan] = (s, refuseField .captureRead 2) := by
  have hframe : s.capture.ring[u8 [index, chan] 0]? = some f := hindex
  have hchan : f.channels.find? (fun x => x.chan.val == u8 [index, chan] 1) = none := hnone
  rcases h with h | h <;> simp only [State.takeCaptureRead, h, hframe, hchan]

theorem State.takeCaptureRead_of_channel (h : s.capture.state = .held ∨ s.capture.state = .frozen) {f : Frame}
    (hindex : s.capture.ring[index.toNat]? = some f) {x : FrameChannel}
    (hx : f.channels.find? (fun x => x.chan.val == chan.toNat) = some x) :
    s.takeCaptureRead [index, chan] = (s, .now .done (captureReadBody f x)) := by
  have hframe : s.capture.ring[u8 [index, chan] 0]? = some f := hindex
  have hchan : f.channels.find? (fun x => x.chan.val == u8 [index, chan] 1) = some x := hx
  rcases h with h | h <;> simp only [State.takeCaptureRead, h, hframe, hchan]

end

/-- Settles O37: the body's fields in order, and the answer by the capture state, the frame and the channel. -/
theorem captureReadReturnsTheNamedFrame : Obligations.CaptureReadReturnsTheNamedFrame := by
  unfold Obligations.CaptureReadReturnsTheNamedFrame
  refine ⟨laidOut_captureReadBody, fun s tag index chan hrdy hs => ⟨fun hstate => ?_, fun hstate => ⟨fun hindex => ?_,
    fun f hf => ⟨fun hnone => ?_, fun before x after hchannels hbefore hx => ?_⟩⟩⟩⟩
  · exact congrArg Host.Outcome.next
      (State.serve_of_owner hs rfl (State.takeCaptureRead_of_recording (s := s.enterService ..) hstate _) hrdy)
  · exact congrArg Host.Outcome.next (State.serve_of_owner hs rfl
      (State.takeCaptureRead_of_no_frame (s := s.enterService ..) hstate (List.getElem?_eq_none hindex)) hrdy)
  · have hfind : f.channels.find? (fun x => x.chan.val == chan.toNat) = none := by simpa using hnone
    exact congrArg Host.Outcome.next (State.serve_of_owner hs rfl
      (State.takeCaptureRead_of_no_channel (s := s.enterService ..) hstate hf hfind) hrdy)
  · have hfind : f.channels.find? (fun x => x.chan.val == chan.toNat) = some x := by
      rw [hchannels, List.find?_append, List.find?_eq_none.mpr (by simpa using hbefore), List.find?_cons_of_pos (by simpa using hx)]
      rfl
    exact congrArg Host.Outcome.next (State.serve_of_owner hs rfl
      (State.takeCaptureRead_of_channel (s := s.enterService ..) hstate hf hfind) hrdy)

end Sys2Proof.Machine

namespace Sys2Proof.Machine

/-! ## SET (R141) -/

section
variable {s : State} {k : RequestKind} {p : List Byte} {index : Nat} {checks : List FieldCheck}
  {write : Settings → Settings}

theorem State.takeSet_of_sealed (h : s.store.isSealed = true) : s.takeSet k index checks write = (s, refuseState) := by
  simp [State.takeSet, h]

theorem State.takeSet_of_failure (h : s.store.isSealed = false) {field : Nat} (hfails : firstFailure checks = some field) :
    s.takeSet k index checks write = (s, .now .refusedValue (detail k.code index field)) := by
  simp [State.takeSet, h, hfails]

theorem State.takeSet_of_ok (h : s.store.isSealed = false) (hok : firstFailure checks = none) :
    s.takeSet k index checks write =
      (s.setStore { s.store with pending := write s.store.pending }, doneEmpty) := by
  simp [State.takeSet, h, hok]

variable (howner : k.owner p = State.takeSet k index checks write) (hlength : p.length = k.length) (hs : s.canServe)
  (tag : Byte) (hrdy : Bool)
include howner hlength hs

theorem exec_set_of_sealed (h : s.store.isSealed = true) :
    exec (k.command tag p hrdy) s = .next (s.answered k tag p .refusedState [] hrdy) := by
  rw [exec_command, howner]
  exact congrArg Host.Outcome.next
    (State.serve_of_owner hs hlength (State.takeSet_of_sealed (s := s.enterService ..) h) hrdy)

theorem exec_set_of_failure (h : s.store.isSealed = false) {field : Nat} (hfails : firstFailure checks = some field) :
    exec (k.command tag p hrdy) s = .next (s.answered k tag p .refusedValue (detail k.code index field) hrdy) := by
  rw [exec_command, howner]
  exact congrArg Host.Outcome.next
    (State.serve_of_owner hs hlength (State.takeSet_of_failure (s := s.enterService ..) h hfails) hrdy)

theorem exec_set_of_ok (h : s.store.isSealed = false) (hok : firstFailure checks = none) :
    exec (k.command tag p hrdy) s =
      .next ((s.setStore { s.store with pending := write s.store.pending }).answered k tag p .done [] hrdy) := by
  rw [exec_command, howner]
  exact congrArg Host.Outcome.next (State.serve_of_owner (s2 := s.setStore { s.store with pending := write s.store.pending })
    hs hlength (State.takeSet_of_ok (s := s.enterService ..) h hok) hrdy)

end

/-! ### Reading back what a body encodes (section 11.3) -/

theorem u8_cons_succ (b : Byte) (p : List Byte) (o : Nat) : u8 (b :: p) (o + 1) = u8 p o := rfl

theorem byte_toNat (x : Nat) : (byte x).toNat = x % 256 := rfl

theorem yes_yesNo (v : Bool) : ((yesNo v).toNat == 1) = v := by cases v <;> rfl

theorem yesNo_le (v : Bool) : (yesNo v).toNat ≤ 1 := by cases v <;> decide

theorem levelOf_byte (l : Level) : levelOf (l.val % 256) = l := by
  revert l
  decide

/-- A signed number from the two bytes that write it. -/
theorem toInt_bytes {i : Int} (hlow : -32768 ≤ i) (hhigh : i ≤ 32767) :
    (BitVec.ofNat 16 ((i % 65536).toNat / 256 % 256 * 256 + (i % 65536).toNat % 256)).toInt = i := by
  rw [BitVec.toInt_eq_toNat_cond, BitVec.toNat_ofNat]
  split <;> omega

theorem generalBody_roundTrip {g : General} (hg : g.inRange) :
    firstFailure (generalChecks (generalBody g)) = none ∧ readGeneral (generalBody g) = g := by
  obtain ⟨cycles, interval, attention, A, capture, depth⟩ := g
  simp only [General.inRange] at hg
  obtain ⟨hlow, hhigh, hinterval, hlevel, hdepth⟩ := hg
  have hA := A.isLt
  have hC := capture.isLt
  have hlevel' : 1 ≤ A.val := hlevel
  constructor
  · rw [firstFailure_eq_none]
    simp [generalChecks, generalBody, within_iff, be16, u16, u8_cons_succ, byte_toNat, yesNoOk, yesNo_le]
    omega
  · simp [readGeneral, generalBody, be16, u16, u8_cons_succ, byte_toNat, yes, yes_yesNo, levelOf_byte]
    omega

theorem channelBody_roundTrip (i : Fin 16) {x : ChannelItem} (hx : x.inRange) :
    firstFailure (channelChecks (channelBody i x)) = none ∧ readChannelItem (channelBody i x) = x := by
  obtain ⟨enabled, trim, gain, step⟩ := x
  simp only [ChannelItem.inRange] at hx
  obtain ⟨htlow, hthigh, hglow, hghigh, hstep⟩ := hx
  have htrim := toInt_bytes (i := trim) (by omega) (by omega)
  have hgain := toInt_bytes (i := gain) hglow hghigh
  have hi := i.isLt
  constructor
  · rw [firstFailure_eq_none]
    simp [channelChecks, channelBody, within_iff, be16, beInt, u16, s16, u8_cons_succ, byte_toNat, yesNoOk, yesNo_le]
    omega
  · simp [readChannelItem, channelBody, be16, beInt, u16, s16, u8_cons_succ, byte_toNat, yes, yes_yesNo]
    omega

theorem contactBody_roundTrip (k : Fin 6) {x : ContactItem} (hx : x.source.inRange = true) :
    firstFailure (contactChecks (contactBody k x)) = none ∧ readContact (contactBody k x) = x := by
  obtain ⟨enabled, source, sense⟩ := x
  have hk := k.isLt
  have hsense (v : Sense) : v.code.toNat ≤ 1 := by cases v <;> decide
  have hslot (u : Fin 8) : u.val % 256 ≤ 7 := by omega
  have hnamed (u : Fin 8) : Fin.ofNat 8 (u.val % 256) = u := by revert u; decide
  have hlevel (n : Level) (hn : 1 ≤ n) : 1 ≤ n.val % 256 ∧ n.val % 256 ≤ 3 := by revert n; decide
  constructor
  · rw [firstFailure_eq_none]
    cases source with
    | level u n =>
      have hu := hslot u
      have hn := hlevel n (by simpa [ContactSource.inRange] using hx)
      simp [contactChecks, contactBody, ContactSource.code, ContactSource.params, within_iff, u8_cons_succ, byte_toNat,
        yesNoOk, yesNo_le, hsense, hu, hn]
      omega
    | anyLevel n =>
      have hn := hlevel n (by simpa [ContactSource.inRange] using hx)
      simp [contactChecks, contactBody, ContactSource.code, ContactSource.params, within_iff, u8_cons_succ, byte_toNat,
        yesNoOk, yesNo_le, hsense, hn]
      omega
    | _ =>
      simp [contactChecks, contactBody, ContactSource.code, ContactSource.params, within_iff, u8_cons_succ, byte_toNat,
        yesNoOk, yesNo_le, hsense]
      omega
  · have hsource : readSource (contactBody k { enabled := enabled, source := source, sense := sense }) = source := by
      cases source <;>
        simp [readSource, contactBody, ContactSource.code, ContactSource.params, u8_cons_succ, byte_toNat, levelOf_byte,
          hnamed, -Fin.ofNat_eq_cast]
    have hlast : u8 (contactBody k { enabled := enabled, source := source, sense := sense }) 5 = sense.code.toNat := by
      cases source <;> rfl
    have hyes : yes (contactBody k { enabled := enabled, source := source, sense := sense }) 1 = enabled := yes_yesNo enabled
    rw [readContact, hsource, hlast, hyes]
    cases sense <;> rfl

theorem annunciatorBody_roundTrip {x : AnnunciatorItem} (hx : x.inRange) :
    firstFailure (annunciatorChecks (annunciatorBody x)) = none ∧ readAnnunciator (annunciatorBody x) = x := by
  obtain ⟨tone, loud, ⟨s1, w1⟩, ⟨s2, w2⟩, ⟨s3, w3⟩, ⟨s4, w4⟩, ⟨s5, w5⟩, chirp, chirpTone⟩ := x
  simp only [AnnunciatorItem.inRange, Pattern.inRange] at hx
  obtain ⟨htone, hlow, hhigh, h1, h2, h3, h4, h5, hchirp⟩ := hx
  have hsteps (v : BitVec 16) : BitVec.ofNat 16 (v.toNat / 256 % 256 * 256 + v.toNat % 256) = v := by
    refine BitVec.eq_of_toNat_eq ?_
    have := v.isLt
    rw [BitVec.toNat_ofNat]
    omega
  constructor
  · rw [firstFailure_eq_none]
    simp [annunciatorChecks, annunciatorBody, patternBytes, within_iff, be16, u8_cons_succ, byte_toNat, yesNoOk, yesNo_le]
    omega
  · simp [readAnnunciator, readPattern, annunciatorBody, patternBytes, be16, u16, u8_cons_succ, byte_toNat, yes, yes_yesNo,
      hsteps]
    omega

theorem ofNat_u8_index {n : Nat} [NeZero n] (hn : n ≤ 256) (i : Fin n) (p : List Byte) :
    Fin.ofNat n (u8 (byte i.val :: p) 0) = i := by
  have hi := i.isLt
  refine Fin.ext ?_
  rw [u8_cons_zero, byte_toNat, Fin.ofNat, Nat.mod_eq_of_lt (show i.val < 256 by omega)]
  exact Nat.mod_eq_of_lt hi

/-- Settles O39: each body passes its checks and is read back as the item that it encodes. -/
theorem setStoresTheGlobalItems : Obligations.SetStoresTheGlobalItems := by
  unfold Obligations.SetStoresTheGlobalItems
  intro s tag hrdy hs hopen
  refine ⟨fun g hg => ?_, fun x hx => ?_, fun i x hx => ?_, fun k x hx => ?_⟩
  · obtain ⟨hok, hread⟩ := generalBody_roundTrip hg
    have h := exec_set_of_ok (k := .setGeneral) rfl rfl hs tag hrdy hopen hok
    rw [writeGeneral, hread] at h
    exact h
  · obtain ⟨hok, hread⟩ := annunciatorBody_roundTrip hx
    have h := exec_set_of_ok (k := .setAnnunciator) rfl rfl hs tag hrdy hopen hok
    rw [writeAnnunciator, hread] at h
    exact h
  · obtain ⟨hok, hread⟩ := channelBody_roundTrip i hx
    have h := exec_set_of_ok (k := .setChannel) rfl rfl hs tag hrdy hopen hok
    have hindex : Fin.ofNat 16 (u8 (channelBody i x) 0) = i := ofNat_u8_index (by omega) i _
    rw [writeChannel, hread, hindex] at h
    exact h
  · obtain ⟨hok, hread⟩ := contactBody_roundTrip k hx
    have hlength : (contactBody k x).length = RequestKind.setContact.length := by
      obtain ⟨enabled, source, sense⟩ := x
      cases source <;> rfl
    have h := exec_set_of_ok (k := .setContact) rfl hlength hs tag hrdy hopen hok
    have hindex : Fin.ofNat 6 (u8 (contactBody k x) 0) = k := ofNat_u8_index (by omega) k _
    rw [writeContact, hread, hindex] at h
    exact h

end Sys2Proof.Machine

namespace Sys2Proof.Machine

/-! ### The bodies of the slot items (section 11.3) -/

theorem termBytes_eq (o : Option Term) : ∃ a b c, termBytes o = [a, b, c] := by
  cases o <;> exact ⟨_, _, _, rfl⟩

theorem pointBytes_length (o : Option Breakpoint) : (pointBytes o).length = 4 := by cases o <;> rfl

theorem transformerBody_term (t : Fin 8) (x : TransformerItem) {k j : Nat} (hk : k < 3) (hj : j < 3) :
    (transformerBody t x).getD (termOffset k + j) 0 = (termBytes x.terms[k]?).getD j 0 := by
  obtain ⟨a, b, c, h0⟩ := termBytes_eq x.terms[0]?
  obtain ⟨a', b', c', h1⟩ := termBytes_eq x.terms[1]?
  obtain ⟨a'', b'', c'', h2⟩ := termBytes_eq x.terms[2]?
  interval_cases k <;> interval_cases j <;> simp only [transformerBody, h0, h1, h2] <;> rfl

theorem readTerm_transformerBody (t : Fin 8) (x : TransformerItem) {k : Nat} {w : Term} (hk : k < 3)
    (hw : x.terms[k]? = some w) (hrange : w.inRange) : readTerm (transformerBody t x) k = w := by
  have hbytes (j : Nat) (hj : j < 3) : u8 (transformerBody t x) (termOffset k + j) =
      ((termBytes (some w)).getD j 0).toNat := by rw [u8, transformerBody_term t x hk hj, hw]
  obtain ⟨chan, weight⟩ := w
  obtain ⟨hlow, hhigh, -⟩ := hrange
  have hlow : -4096 ≤ weight := hlow
  have hhigh : weight ≤ 4095 := hhigh
  have hweight := toInt_bytes (i := weight) (by omega) (by omega)
  have hchan : ∀ chan : Fin 16, Fin.ofNat 16 (byte chan.val).toNat = chan := by decide
  have hchan := hchan chan
  rw [readTerm, s16, u16, ← Nat.add_zero (termOffset k), hbytes 0 (by omega), Nat.add_zero, hbytes 1 (by omega),
    Nat.add_assoc, hbytes 2 (by omega)]
  simp [termBytes, beInt, be16, byte_toNat, hweight] at hchan ⊢
  exact hchan

theorem transformerBody_count (t : Fin 8) {x : TransformerItem} (hx : x.inRange) :
    u8 (transformerBody t x) 2 = x.terms.length := by
  obtain ⟨hcount, -⟩ := hx
  have h : u8 (transformerBody t x) 2 = (byte x.terms.length).toNat := rfl
  rw [h, byte_toNat]
  omega

theorem termsOk_transformerBody (t : Fin 8) {x : TransformerItem} (hx : x.inRange) {k : Nat} (hk : k < 3) :
    termChannelOk (transformerBody t x) k = true ∧ termWeightOk (transformerBody t x) k = true := by
  rw [termWeightOk_iff, termChannelOk, Bool.or_eq_true, decide_eq_true_eq, within_iff, transformerBody_count t hx]
  rcases Nat.lt_or_ge k x.terms.length with hlt | hge
  · have hw := hx.2.1 _ (List.getElem_mem hlt)
    have hread := readTerm_transformerBody t x hk (List.getElem?_eq_getElem hlt) hw
    have hweight : s16 (transformerBody t x) (termOffset k + 1) = x.terms[k].weight := congrArg Term.weight hread
    rw [hweight]
    have hbyte : u8 (transformerBody t x) (termOffset k) = (byte x.terms[k].chan.val).toNat := by
      rw [u8, ← Nat.add_zero (termOffset k), transformerBody_term t x hk (by omega), List.getElem?_eq_getElem hlt]
      rfl
    have hchan := x.terms[k].chan.isLt
    rw [hbyte, byte_toNat]
    exact ⟨.inr ⟨Nat.zero_le _, by omega⟩, fun _ => hw⟩
  · exact ⟨.inl hge, fun hlt => absurd hlt (Nat.not_lt.mpr hge)⟩

theorem transformerBody_roundTrip (t : Fin 8) {x : TransformerItem} (hx : x.inRange) :
    firstFailure (transformerChecks (transformerBody t x)) = none ∧ readTransformerItem (transformerBody t x) = x := by
  obtain ⟨hc0, hw0⟩ := termsOk_transformerBody t hx (k := 0) (by omega)
  obtain ⟨hc1, hw1⟩ := termsOk_transformerBody t hx (k := 1) (by omega)
  obtain ⟨hc2, hw2⟩ := termsOk_transformerBody t hx (k := 2) (by omega)
  have hcount := transformerBody_count t hx
  have hread (k : Nat) (hk : k < x.terms.length) : readTerm (transformerBody t x) k = x.terms[k] :=
    readTerm_transformerBody t x (Nat.lt_of_lt_of_le hk hx.1) (List.getElem?_eq_getElem hk) (hx.2.1 _ (List.getElem_mem hk))
  have hterms : (List.range (u8 (transformerBody t x) 2)).map (readTerm (transformerBody t x)) = x.terms := by
    rw [hcount]
    exact List.ext_getElem (by simp) fun k h _ => by simpa using hread k (by simpa using h)
  obtain ⟨hlen, -, hup, hup', hdown, hdown', hfloor⟩ := hx
  obtain ⟨a, b, c, h0⟩ := termBytes_eq x.terms[0]?
  obtain ⟨a', b', c', h1⟩ := termBytes_eq x.terms[1]?
  obtain ⟨a'', b'', c'', h2⟩ := termBytes_eq x.terms[2]?
  have ht := t.isLt
  have htauUp : u16 (transformerBody t x) 12 = x.tauUp := by
    simp [transformerBody, h0, h1, h2, u16, be16, u8_cons_succ, byte_toNat]
    omega
  have htauDown : u16 (transformerBody t x) 14 = x.tauDown := by
    simp [transformerBody, h0, h1, h2, u16, be16, u8_cons_succ, byte_toNat]
    omega
  have hfloorRead : u16 (transformerBody t x) 16 = x.floor := by
    simp [transformerBody, h0, h1, h2, u16, be16, u8_cons_succ, byte_toNat]
    omega
  have hslot : u8 (transformerBody t x) 0 = (byte t.val).toNat := rfl
  have hyes : u8 (transformerBody t x) 1 = (yesNo x.defined).toNat := rfl
  constructor
  · rw [firstFailure_eq_none]
    simp [transformerChecks, within_iff, hc0, hw0, hc1, hw1, hc2, hw2, hcount, htauUp, htauDown, hfloorRead, hslot, hyes,
      byte_toNat, yesNoOk, yesNo_le]
    omega
  · rw [readTransformerItem, hterms, htauUp, htauDown, hfloorRead, yes, hyes, yes_yesNo]

/-- In a list of blocks of m bytes, byte j of block k stands at m × k + j. -/
theorem getD_flatMap_blocks {m : Nat} {f : Nat → List Byte} (hf : ∀ k, (f k).length = m) {k j : Nat} (hj : j < m) :
    ∀ {n : Nat}, k < n → ((List.range n).flatMap f).getD (m * k + j) 0 = (f k).getD j 0 := by
  have hlength (n : Nat) : ((List.range n).flatMap f).length = m * n := by
    simp [List.length_flatMap, hf, Nat.mul_comm]
  intro n
  induction n with
  | zero => intro h; omega
  | succ n ih =>
    intro hk
    rw [List.range_succ, List.flatMap_append]
    rcases Nat.lt_or_ge k n with hlt | hge
    · have hbelow : m * k + j < m * n := by
        have : m * (k + 1) ≤ m * n := Nat.mul_le_mul_left m hlt
        rw [Nat.mul_add] at this
        omega
      rw [List.getD_append _ _ _ _ (by rw [hlength]; exact hbelow), ih hlt]
    · obtain rfl : k = n := by omega
      rw [List.getD_append_right _ _ _ _ (by rw [hlength]; omega), hlength]
      simp

theorem curveBody_point (t : Fin 8) (points : List Breakpoint) {k j : Nat} (hk : k < 8) (hj : j < 4) :
    u8 (curveBody t points) (pointOffset k + j) = ((pointBytes points[k]?).getD j 0).toNat := by
  have hblock := getD_flatMap_blocks (f := fun k => pointBytes points[k]?) (fun k => pointBytes_length _) hj hk
  have hoffset : pointOffset k + j = 4 * k + j + 2 := by unfold pointOffset; omega
  rw [hoffset, ← hblock]
  rfl

theorem u16_curveBody (t : Fin 8) {points : List Breakpoint} (hc : curveInRange points) {k : Nat} (hk : k < points.length) :
    u16 (curveBody t points) (pointOffset k) = points[k].current ∧ u16 (curveBody t points) (pointOffset k + 2) = points[k].rise := by
  obtain ⟨hcount, hrange⟩ := hc
  have hb := hrange _ (List.getElem_mem hk)
  have hbyte (j : Nat) (hj : j < 4) : u8 (curveBody t points) (pointOffset k + j) =
      ((pointBytes (some points[k])).getD j 0).toNat := by
    rw [curveBody_point t points (by omega) hj, List.getElem?_eq_getElem hk]
  have h0 := hbyte 0 (by omega)
  have h1 := hbyte 1 (by omega)
  have h2 := hbyte 2 (by omega)
  have h3 := hbyte 3 (by omega)
  simp [pointBytes, be16, byte_toNat] at h0 h1 h2 h3
  rw [u16, u16, h0, h1, Nat.add_assoc, h2, h3]
  omega

theorem curveBody_roundTrip (t : Fin 8) {points : List Breakpoint} (hc : curveInRange points) :
    firstFailure (curveChecks (curveBody t points)) = none ∧ readCurve (curveBody t points) = points := by
  have hslot : u8 (curveBody t points) 0 = (byte t.val).toNat := rfl
  have hlen := hc.1
  have hcount : u8 (curveBody t points) 1 = points.length := by
    have h : u8 (curveBody t points) 1 = (byte points.length).toNat := rfl
    rw [h, byte_toNat]
    omega
  have ht := t.isLt
  constructor
  · rw [firstFailure_eq_none]
    have hpoint (k : Nat) : (decide (points.length ≤ k) || within 1 32767 (u16 (curveBody t points) (pointOffset k))) = true ∧
        (decide (points.length ≤ k) || within 0 60000 (u16 (curveBody t points) (pointOffset k + 2))) = true := by
      rcases Nat.lt_or_ge k points.length with hlt | hge
      · obtain ⟨hcurrent, hrise⟩ := u16_curveBody t hc hlt
        obtain ⟨hlow, hhigh, htop⟩ := hc.2 _ (List.getElem_mem hlt)
        rw [hcurrent, hrise]
        simp [within_iff, hlow, hhigh, htop]
      · simp [hge]
    intro x hx
    simp only [curveChecks, hcount, List.mem_append, List.mem_cons, List.mem_map, List.not_mem_nil, or_false] at hx
    rcases hx with ((rfl | rfl) | ⟨k, -, rfl⟩) | ⟨k, -, rfl⟩
    · simp only [hslot, within_iff, byte_toNat]
      omega
    · simp only [within_iff]
      omega
    · exact (hpoint k).1
    · exact (hpoint k).2
  · refine List.ext_getElem (by simp [readCurve, hcount]) fun k h hk => ?_
    obtain ⟨hcurrent, hrise⟩ := u16_curveBody t hc hk
    simp [readCurve, hcurrent, hrise]

theorem monitorsBody_roundTrip (t : Fin 8) {x : MonitorsItem} (hx : x.inRange) :
    firstFailure (monitorsChecks (monitorsBody t x)) = none ∧ readMonitors (monitorsBody t x) = x := by
  obtain ⟨⟨c1, c2, c3⟩, ⟨r1, r2, r3⟩, ⟨e1, e2, e3⟩, hC, hR, pUp, pDown⟩ := x
  simp only [MonitorsItem.inRange, Thresholds.atMost] at hx
  have ht := t.isLt
  constructor
  · rw [firstFailure_eq_none]
    simp [monitorsChecks, monitorsBody, within_iff, be16, be32, u16, u8_cons_succ, byte_toNat]
    omega
  · simp [readMonitors, monitorsBody, be16, be32, u16, u32, u8_cons_succ, byte_toNat]
    omega

/-- Settles O40: each body passes its checks and is read back as the item that it encodes. -/
theorem setStoresTheSlotItems : Obligations.SetStoresTheSlotItems := by
  unfold Obligations.SetStoresTheSlotItems
  intro s tag hrdy u hs hopen
  refine ⟨fun x hx => ?_, fun x hx => ?_, fun x hx => ?_⟩
  · obtain ⟨hok, hread⟩ := transformerBody_roundTrip u hx
    have hlength : (transformerBody u x).length = RequestKind.setTransformer.length := by
      obtain ⟨a, b, c, h0⟩ := termBytes_eq x.terms[0]?
      obtain ⟨a', b', c', h1⟩ := termBytes_eq x.terms[1]?
      obtain ⟨a'', b'', c'', h2⟩ := termBytes_eq x.terms[2]?
      rw [transformerBody, h0, h1, h2]
      rfl
    have h := exec_set_of_ok (k := .setTransformer) rfl hlength hs tag hrdy hopen hok
    have hindex : Fin.ofNat 8 (u8 (transformerBody u x) 0) = u := ofNat_u8_index (by omega) u _
    rw [writeTransformer, hread, hindex] at h
    exact h
  · obtain ⟨hok, hread⟩ := curveBody_roundTrip u hx
    have hlength : (curveBody u x).length = RequestKind.setCurve.length := by
      simp [curveBody, List.length_flatMap, pointBytes_length, RequestKind.length]
    have h := exec_set_of_ok (k := .setCurve) rfl hlength hs tag hrdy hopen hok
    have hindex : Fin.ofNat 8 (u8 (curveBody u x) 0) = u := ofNat_u8_index (by omega) u _
    rw [writeCurve, hread, hindex] at h
    exact h
  · obtain ⟨hok, hread⟩ := monitorsBody_roundTrip u hx
    have h := exec_set_of_ok (k := .setMonitors) rfl rfl hs tag hrdy hopen hok
    have hindex : Fin.ofNat 8 (u8 (monitorsBody u x) 0) = u := ofNat_u8_index (by omega) u _
    rw [writeMonitors, hread, hindex] at h
    exact h

end Sys2Proof.Machine

namespace Sys2Proof.Machine

/-! ### The first bad field of a SET (R141) -/

/-- A check carries a rule's field number and passes exactly when the rule is met. -/
def FieldCheck.states (c : FieldCheck) (rule : Nat × Prop) : Prop := c.1 = rule.1 ∧ (c.2 = true ↔ rule.2)

/-- The checks of a SET against the rules of a table: each in its place, with its number, passing exactly as ruled. -/
abbrev checksState : List FieldCheck → List (Nat × Prop) → Prop := List.Forall₂ FieldCheck.states

theorem checkedInOrder_of_firstFailure {refused : Nat → Prop} {isDone : Prop} {checks : List FieldCheck}
    {rules : List (Nat × Prop)} (h : checksState checks rules)
    (hrefused : ∀ field, firstFailure checks = some field → refused field) (hdone : firstFailure checks = none → isDone) :
    checkedInOrder refused isDone rules := by
  induction h with
  | nil => exact hdone rfl
  | @cons c rule checks rules hstates _ ih =>
    obtain ⟨number, ok⟩ := c
    obtain ⟨hnumber, hok⟩ := hstates
    refine ⟨fun hnot => ?_, fun hmet => ?_⟩
    · refine hnumber ▸ hrefused number ?_
      have hfails : ok = false := Bool.eq_false_iff.mpr (mt hok.mp hnot)
      simp [firstFailure, hfails]
    · have hpass : ok = true := hok.mpr hmet
      exact ih (fun field hf => hrefused field (by simpa [firstFailure, hpass] using hf))
        (fun hf => hdone (by simpa [firstFailure, hpass] using hf))

section
variable {s : State} {k : RequestKind} {p : List Byte} {index : Nat} {checks : List FieldCheck}
  {write : Settings → Settings}

theorem exec_set_checkedInOrder (howner : k.owner p = State.takeSet k index checks write) (hlength : p.length = k.length)
    (hs : s.canServe) (tag : Byte) (hrdy : Bool) (hopen : s.store.isSealed = false) {named : Byte}
    (hindex : byte index = named) {rules : List (Nat × Prop)} (hrules : checksState checks rules) :
    checkedInOrder
      (fun field => exec (k.command tag p hrdy) s =
        .next (s.answered k tag p .refusedValue [k.code, named, BitVec.ofNat 8 field] hrdy))
      (∃ c, exec (k.command tag p hrdy) s =
        .next (({ s with store := { s.store with pending := c } }).answered k tag p .done [] hrdy)) rules :=
  checkedInOrder_of_firstFailure hrules
    (fun _ hfails => hindex ▸ exec_set_of_failure howner hlength hs tag hrdy hopen hfails)
    (fun hok => ⟨_, exec_set_of_ok howner hlength hs tag hrdy hopen hok⟩)

end

section
variable {p : List Byte}

theorem byte_u8 (p : List Byte) (o : Nat) : byte (u8 p o) = p.getD o 0 := BitVec.ofNat_toNat _ _

theorem within_zero_iff {hi x : Nat} : within 0 hi x = true ↔ x ≤ hi := by simp [within_iff]

theorem yesNoOk_iff {o : Nat} : yesNoOk p o = true ↔ u8 p o ≤ 1 := by simp [yesNoOk]

/-- The signed number of two bytes, in two's complement (section 11.1). -/
theorem s16_eq (o : Nat) : s16 p o = if u16 p o < 32768 then (u16 p o : Int) else u16 p o - 65536 := by
  have := u16_lt p o
  rw [s16, BitVec.toInt_eq_toNat_cond, BitVec.toNat_ofNat]
  split <;> split <;> omega

theorem termChannelOk_iff (k : Nat) : termChannelOk p k = true ↔ (k < u8 p 2 → u8 p (3 * k + 3) ≤ 15) := by
  rw [termChannelOk, Bool.or_eq_true, decide_eq_true_eq, within_zero_iff, termOffset, Nat.add_comm 3]
  omega

theorem generalChecks_state : checksState (generalChecks p)
    [(1, 10 ≤ u8 p 0 ∧ u8 p 0 ≤ 120), (2, u16 p 1 ≤ 3600), (3, u8 p 3 ≤ 1), (4, 1 ≤ u8 p 4 ∧ u8 p 4 ≤ 3),
      (5, u8 p 5 ≤ 3), (6, u8 p 6 ≤ 47)] :=
  .cons ⟨rfl, within_iff⟩ <| .cons ⟨rfl, within_zero_iff⟩ <| .cons ⟨rfl, yesNoOk_iff⟩ <| .cons ⟨rfl, within_iff⟩ <|
    .cons ⟨rfl, within_zero_iff⟩ <| .cons ⟨rfl, within_zero_iff⟩ .nil

theorem channelChecks_state : checksState (channelChecks p)
    [(0, u8 p 0 ≤ 15), (1, u8 p 1 ≤ 1), (2, -2048 ≤ s16 p 2 ∧ s16 p 2 ≤ 2047), (4, u16 p 6 ≤ 2047)] :=
  .cons ⟨rfl, within_zero_iff⟩ <| .cons ⟨rfl, yesNoOk_iff⟩ <| .cons ⟨rfl, by simp⟩ <| .cons ⟨rfl, within_zero_iff⟩ .nil

theorem transformerChecks_state : checksState (transformerChecks p)
    ([(0, u8 p 0 ≤ 7), (1, u8 p 1 ≤ 1), (2, u8 p 2 ≤ 3)]
      ++ (List.range 3).map (fun n => (2 * n + 3, n < u8 p 2 → u8 p (3 * n + 3) ≤ 15))
      ++ (List.range 3).map (fun n => (2 * n + 4,
        n < u8 p 2 → -4096 ≤ s16 p (3 * n + 4) ∧ s16 p (3 * n + 4) ≤ 4095 ∧ s16 p (3 * n + 4) ≠ 0))
      ++ [(9, 1 ≤ u16 p 12), (10, 1 ≤ u16 p 14), (11, u16 p 16 ≤ 32767)]) := by
  have htime (o : Nat) : within 1 65535 (u16 p o) = true ↔ 1 ≤ u16 p o := by
    have := u16_lt p o
    rw [within_iff]
    omega
  exact .cons ⟨rfl, within_zero_iff⟩ <| .cons ⟨rfl, yesNoOk_iff⟩ <| .cons ⟨rfl, within_zero_iff⟩ <|
    .cons ⟨rfl, termChannelOk_iff 0⟩ <| .cons ⟨rfl, termChannelOk_iff 1⟩ <| .cons ⟨rfl, termChannelOk_iff 2⟩ <|
    .cons ⟨rfl, termWeightOk_iff 0⟩ <| .cons ⟨rfl, termWeightOk_iff 1⟩ <| .cons ⟨rfl, termWeightOk_iff 2⟩ <|
    .cons ⟨rfl, htime 12⟩ <| .cons ⟨rfl, htime 14⟩ <| .cons ⟨rfl, within_zero_iff⟩ .nil

theorem curveChecks_state : checksState (curveChecks p)
    ([(0, u8 p 0 ≤ 7), (1, u8 p 1 ≤ 8)]
      ++ (List.range 8).map (fun n => (2 * n + 2, n < u8 p 1 → 1 ≤ u16 p (4 * n + 2) ∧ u16 p (4 * n + 2) ≤ 32767))
      ++ (List.range 8).map (fun n => (2 * n + 3, n < u8 p 1 → u16 p (4 * n + 4) ≤ 60000))) := by
  have hplace (k : Nat) : pointOffset k = 4 * k + 2 := Nat.add_comm ..
  refine List.rel_append (List.rel_append ?_ ?_) ?_
  · exact .cons ⟨rfl, within_zero_iff⟩ (.cons ⟨rfl, within_zero_iff⟩ .nil)
  · rw [List.forall₂_map_left_iff, List.forall₂_map_right_iff, List.forall₂_same]
    refine fun k _ => ⟨rfl, ?_⟩
    simp only [hplace, Bool.or_eq_true, decide_eq_true_eq, within_iff]
    omega
  · rw [List.forall₂_map_left_iff, List.forall₂_map_right_iff, List.forall₂_same]
    refine fun k _ => ⟨rfl, ?_⟩
    simp only [hplace, Nat.add_assoc, Nat.reduceAdd, Bool.or_eq_true, decide_eq_true_eq, within_zero_iff]
    omega

theorem monitorsChecks_state : checksState (monitorsChecks p)
    [(0, u8 p 0 ≤ 7), (1, u16 p 1 ≤ 32767), (2, u16 p 3 ≤ 32767), (3, u16 p 5 ≤ 32767), (4, u16 p 7 ≤ 60000),
      (5, u16 p 9 ≤ 60000), (6, u16 p 11 ≤ 60000), (10, u16 p 25 ≤ 32767), (11, u16 p 27 ≤ 60000),
      (12, 1 ≤ u8 p 29 ∧ u8 p 29 ≤ 16), (13, 1 ≤ u8 p 30 ∧ u8 p 30 ≤ 16)] :=
  .cons ⟨rfl, within_zero_iff⟩ <| .cons ⟨rfl, within_zero_iff⟩ <| .cons ⟨rfl, within_zero_iff⟩ <|
    .cons ⟨rfl, within_zero_iff⟩ <| .cons ⟨rfl, within_zero_iff⟩ <| .cons ⟨rfl, within_zero_iff⟩ <|
    .cons ⟨rfl, within_zero_iff⟩ <| .cons ⟨rfl, within_zero_iff⟩ <| .cons ⟨rfl, within_zero_iff⟩ <|
    .cons ⟨rfl, within_iff⟩ <| .cons ⟨rfl, within_iff⟩ .nil

theorem contactChecks_state : checksState (contactChecks p)
    [(0, u8 p 0 ≤ 5), (1, u8 p 1 ≤ 1), (2, u8 p 2 ≤ 6), (3, u8 p 2 = 1 → u8 p 3 ≤ 7),
      (4, u8 p 2 = 1 ∨ u8 p 2 = 2 → 1 ≤ u8 p 4 ∧ u8 p 4 ≤ 3), (5, u8 p 5 ≤ 1)] := by
  have hslot : (u8 p 2 != 1 || within 0 7 (u8 p 3)) = true ↔ (u8 p 2 = 1 → u8 p 3 ≤ 7) := by
    simp only [Bool.or_eq_true, bne_iff_ne, within_zero_iff]
    omega
  have hlevel : ((u8 p 2 != 1 && u8 p 2 != 2) || within 1 3 (u8 p 4)) = true ↔
      (u8 p 2 = 1 ∨ u8 p 2 = 2 → 1 ≤ u8 p 4 ∧ u8 p 4 ≤ 3) := by
    simp only [Bool.or_eq_true, Bool.and_eq_true, bne_iff_ne, within_iff]
    omega
  exact .cons ⟨rfl, within_zero_iff⟩ <| .cons ⟨rfl, yesNoOk_iff⟩ <| .cons ⟨rfl, within_zero_iff⟩ <|
    .cons ⟨rfl, hslot⟩ <| .cons ⟨rfl, hlevel⟩ <| .cons ⟨rfl, within_zero_iff⟩ .nil

theorem annunciatorChecks_state : checksState (annunciatorChecks p)
    ([(1, u8 p 0 ≤ 7), (2, 1 ≤ u8 p 1 ∧ u8 p 1 ≤ 8)]
      ++ (List.range 5).map (fun n => (2 * n + 4, 1 ≤ u8 p (3 * n + 4) ∧ u8 p (3 * n + 4) ≤ 16))
      ++ [(13, u8 p 17 ≤ 1), (14, u8 p 18 ≤ 7)]) :=
  .cons ⟨rfl, within_zero_iff⟩ <| .cons ⟨rfl, within_iff⟩ <| .cons ⟨rfl, within_iff⟩ <| .cons ⟨rfl, within_iff⟩ <|
    .cons ⟨rfl, within_iff⟩ <| .cons ⟨rfl, within_iff⟩ <| .cons ⟨rfl, within_iff⟩ <| .cons ⟨rfl, yesNoOk_iff⟩ <|
    .cons ⟨rfl, within_zero_iff⟩ .nil

end

/-- Settles O41: the checks of each SET state its table row by row, and a SET names the first that fails. -/
theorem setIsRefusedOnItsFirstBadField : Obligations.SetIsRefusedOnItsFirstBadField := by
  unfold Obligations.SetIsRefusedOnItsFirstBadField
  intro s tag hrdy hs
  refine ⟨fun hopen k p hlength => ?_, fun hsealed k hk p hlength => ?_⟩
  · have hz : (fun o => if u16 p o < 32768 then (u16 p o : Int) else u16 p o - 65536) = s16 p :=
      funext fun o => (s16_eq o).symm
    intro b w z index run
    have hz : z = s16 p := hz
    refine ⟨?_, ?_, ?_, ?_, ?_, ?_, ?_⟩ <;> rintro rfl
    · exact exec_set_checkedInOrder rfl hlength hs tag hrdy hopen rfl generalChecks_state
    · rw [hz]
      exact exec_set_checkedInOrder rfl hlength hs tag hrdy hopen (byte_u8 p 0) channelChecks_state
    · rw [hz]
      exact exec_set_checkedInOrder rfl hlength hs tag hrdy hopen (byte_u8 p 0) transformerChecks_state
    · exact exec_set_checkedInOrder rfl hlength hs tag hrdy hopen (byte_u8 p 0) curveChecks_state
    · exact exec_set_checkedInOrder rfl hlength hs tag hrdy hopen (byte_u8 p 0) monitorsChecks_state
    · exact exec_set_checkedInOrder rfl hlength hs tag hrdy hopen (byte_u8 p 0) contactChecks_state
    · exact exec_set_checkedInOrder rfl hlength hs tag hrdy hopen rfl annunciatorChecks_state
  · simp only [List.mem_cons, List.not_mem_nil, or_false] at hk
    rcases hk with rfl | rfl | rfl | rfl | rfl | rfl | rfl <;>
      exact exec_set_of_sealed rfl hlength hs tag hrdy hsealed

end Sys2Proof.Machine

namespace Sys2Proof.Machine

/-! ## The horn formed anew (R103, R104) -/

/-- The pattern in use has begun, or is that of another level than `before` had (R103). -/
abbrev State.otherPattern (s before : State) : Prop := s.hornKey ≠ none ∧ s.hornKey ≠ before.hornKey

theorem State.reformPattern_eq (s before : State) : s.reformPattern before = s.setAnn { s.ann with
    hornPos := if s.otherPattern before then 0 else s.ann.hornPos
    hornReset := if s.otherPattern before then true else s.ann.hornReset } := by
  by_cases h : s.otherPattern before
  · rw [State.reformPattern, if_pos ⟨Option.isSome_iff_ne_none.mpr h.1, h.2⟩, if_pos h, if_pos h]
  · rw [State.reformPattern, if_neg fun h' => h ⟨Option.isSome_iff_ne_none.mp h'.1, h'.2⟩, if_neg h, if_neg h]
    rfl

theorem State.reformHorn_eq (s before : State) : ∃ tone, s.reformHorn before = s.setAnn { s.ann with
    hornPos := if s.otherPattern before then 0 else s.ann.hornPos
    hornReset := if s.otherPattern before then true else s.ann.hornReset
    tone := tone } := by
  obtain ⟨tone, e⟩ := State.reformTone_eq (s.reformPattern before)
  refine ⟨tone, ?_⟩
  rw [State.reformHorn, e, State.reformPattern_eq]
  rfl

theorem State.hornKey_setAnn {s : State} {a : Annunciator} (h : a.silenced = s.ann.silenced) :
    (s.setAnn a).hornKey = s.hornKey := by
  rw [State.hornKey, State.hornKey, State.setAnn_ann, h]
  rfl

@[simp] theorem State.reformHorn_hornKey (s before : State) : (s.reformHorn before).hornKey = s.hornKey := by
  obtain ⟨_, e⟩ := s.reformHorn_eq before
  rw [e]
  exact State.hornKey_setAnn rfl

/-! ## An acknowledgement (R96 to R98) -/

theorem Signal.acknowledge_of_not_changes {x : Signal} (h : x.ackChanges = false) (A n : Level) :
    x.acknowledge A n = x := by
  obtain ⟨state, flash, acked⟩ := x
  cases state with
  | flashing | ringback => cases h
  | quiet | steady => rfl

theorem Signal.acknowledge_of_changes {x : Signal} (h : x.ackChanges = true) (A n : Level) : x.acknowledge A n =
    if x.state = .flashing ∧ A ≤ n then { state := .steady, flash := 0, acked := n }
    else if x.state = .flashing then { state := .quiet, flash := 0, acked := 0 }
    else { x with state := .quiet, acked := 0 } := by
  obtain ⟨state, flash, acked⟩ := x
  cases state with
  | flashing => by_cases hA : A ≤ n <;> simp [Signal.acknowledge, hA]
  | ringback => rfl
  | quiet | steady => cases h

theorem Signal.ackChanges_eq (x : Signal) :
    x.ackChanges = (decide (x.state = .flashing) || decide (x.state = .ringback)) := by
  obtain ⟨state, flash, acked⟩ := x
  cases state <;> rfl

theorem getLsbD_byte_bits (set : Table 8 Bool) (u : Fin 8) : (byte (bits set.cells)).getLsbD u.val = set.get u := by
  rw [byte, BitVec.getLsbD_ofNat, decide_eq_true u.isLt, Bool.true_and, testBit_bits_cells]

theorem State.ackSet_get (sel : Fin 8 → Bool) (s : State) (u : Fin 8) :
    (s.ackSet sel).get u = (sel u && (s.slots.get u).signal.ackChanges) := Table.get_ofFn _ u

theorem State.any_ackSet_iff (sel : Fin 8 → Bool) (s : State) :
    (s.ackSet sel).cells.any id = true ↔ ∃ u, (s.ackSet sel).get u = true := by
  simp only [List.any_eq_true, id_eq, exists_eq_right, Table.mem_cells]

/-- An acknowledgement that changes a slot, before the horn is formed anew. -/
def State.acknowledged (src : AckSource) (sel : Fin 8 → Bool) (s : State) : State :=
  { s with
    slots := .ofFn fun u => if sel u then { s.slots.get u with
      signal := (s.slots.get u).signal.acknowledge s.applied.general.annunciateAt (s.heardLevel u) } else s.slots.get u
    notices := s.notices.arrive { epoch := s.cond.epochNumber, body := .acknowledged src (s.ackSet sel) }
    ann := { s.ann with chirp := if s.applied.annunciator.chirpEnable then 2 else s.ann.chirp } }

theorem State.acknowledgeSlots_of_changed {s : State} {sel : Fin 8 → Bool} (h : ∃ u, (s.ackSet sel).get u = true)
    (src : AckSource) : s.acknowledgeSlots src sel = (s.acknowledged src sel).reformHorn s := by
  rw [State.acknowledgeSlots, if_pos ((s.any_ackSet_iff sel).mpr h), State.acknowledged]
  cases s.applied.annunciator.chirpEnable <;> rfl

theorem State.acknowledgeSlots_of_unchanged {s : State} {sel : Fin 8 → Bool} (h : ∀ u, (s.ackSet sel).get u = false)
    (src : AckSource) : s.acknowledgeSlots src sel = s := by
  refine if_neg fun hany => ?_
  obtain ⟨u, hu⟩ := (s.any_ackSet_iff sel).mp hany
  exact absurd hu (Bool.eq_false_iff.mp (h u))

/-- A slot that an acknowledgement does not change stands; one that it changes is acknowledged at its live level. -/
theorem State.acknowledgeSlots_get (src : AckSource) (sel : Fin 8 → Bool) (s : State) (u : Fin 8) :
    ((s.ackSet sel).get u = false → (s.acknowledgeSlots src sel).slots.get u = s.slots.get u) ∧
    ((s.ackSet sel).get u = true → (s.acknowledgeSlots src sel).slots.get u = { s.slots.get u with
      signal := (s.slots.get u).signal.acknowledge s.applied.general.annunciateAt (s.heardLevel u) }) := by
  rw [State.acknowledgeSlots_slot, State.ackSet_get, Bool.and_eq_true, Bool.and_eq_false_iff]
  refine ⟨fun h => ?_, fun h => if_pos h.1⟩
  split
  · next hsel => rw [Signal.acknowledge_of_not_changes (h.resolve_left (by simp [hsel]))]
  · rfl

/-! ## ACKNOWLEDGE (R97) -/

section
variable {s : State} {sel : Byte}

theorem State.takeAcknowledge_of_ge (h : 8 ≤ sel.toNat) (hall : sel ≠ 0xFF) :
    s.takeAcknowledge [sel] = (s, refuseField .acknowledge 1) := by
  have hall : sel.toNat ≠ 255 := fun e => hall (BitVec.eq_of_toNat_eq e)
  rw [State.takeAcknowledge, u8_cons_zero, selectorOf_of_ge h hall]

theorem State.takeAcknowledge_of_undefined {u : Fin 8} (hu : sel.toNat = u.val) (h : s.isDefined u = false) :
    s.takeAcknowledge [sel] = (s, refuseState) := by
  simp [State.takeAcknowledge, hu, h]

/-- The slots that a selector names (R97). -/
def State.named (sel : Byte) (s : State) (u : Fin 8) : Bool :=
  s.isDefined u && (decide (sel.toNat = u.val) || decide (sel = 0xFF))

theorem State.takeAcknowledge_of_named (h : sel = 0xFF ∨ ∃ u : Fin 8, sel.toNat = u.val ∧ s.isDefined u = true) :
    s.takeAcknowledge [sel] = (s.acknowledgeSlots .request (s.named sel),
      .now .done [byte (bits (s.ackSet (s.named sel)).cells)]) := by
  rcases h with rfl | ⟨u, hu, hdefined⟩
  · have hnamed : s.named 0xFF = s.isDefined := funext fun u => by simp [State.named]
    rw [hnamed]
    rfl
  · have hnamed : s.named sel = fun v => decide (v = u) := by
      have hone : sel ≠ 0xFF := by
        rintro rfl
        exact absurd (hu ▸ u.isLt : (0xFF : Byte).toNat < 8) (by decide)
      refine funext fun v => ?_
      by_cases hv : v = u
      · simp [State.named, hv, hu, hdefined]
      · have hone' : ¬ sel = 255#8 := hone
        simp [State.named, hv, hu, hone', Fin.val_inj, Ne.symm hv]
    rw [State.takeAcknowledge, u8_cons_zero, hu, selectorOf_val, hnamed]
    exact if_pos hdefined

end

/-- Settles O43: a selector that names no slot is refused; else the slots it names are acknowledged, each by its state, and
the horn is formed anew if one changed. -/
theorem acknowledgeAnswersTheSlotsItChanged : Obligations.AcknowledgeAnswersTheSlotsItChanged := by
  unfold Obligations.AcknowledgeAnswersTheSlotsItChanged
  refine ⟨fun s u => ⟨fun hnone => ?_, fun h hone => ?_⟩, fun s tag sel hrdy hs => ⟨?_, ?_, ?_⟩⟩
  · exact State.heardLevel_of_none s u (by simp [Flight.changeOf, hnone])
  · split
    · next hslot => exact State.heardLevel_of_some s u h (by simp [Flight.changeOf, hone, hslot])
    · next hslot => exact State.heardLevel_of_none s u (by simp [Flight.changeOf, hone, hslot])
  · exact fun hge hall => congrArg Host.Outcome.next
      (State.serve_of_owner hs rfl (State.takeAcknowledge_of_ge hge hall) hrdy)
  · exact fun u hu hundefined => congrArg Host.Outcome.next
      (State.serve_of_owner hs rfl (State.takeAcknowledge_of_undefined hu hundefined) hrdy)
  · intro hnamed
    have hhit (u : Fin 8) : (s.ackSet (s.named sel)).get u = (s.named sel u &&
        (decide ((s.slots.get u).signal.state = .flashing) || decide ((s.slots.get u).signal.state = .ringback))) := by
      rw [State.ackSet_get, Signal.ackChanges_eq]
    refine ⟨s.acknowledgeSlots .request (s.named sel), byte (bits (s.ackSet (s.named sel)).cells),
      congrArg Host.Outcome.next (State.serve_of_owner_setLink hs rfl (State.acknowledgeSlots_link ..)
        (fun l => ?_) hrdy), fun u => ?_, fun hnone => ?_, fun hsome => ?_⟩
    · rw [← State.acknowledgeSlots_setLink]
      exact State.takeAcknowledge_of_named (s := s.setLink l) hnamed
    · exact (getLsbD_byte_bits _ u).trans (hhit u)
    · exact State.acknowledgeSlots_of_unchanged (fun u => (hhit u).trans (hnone u)) _
    · obtain ⟨u, hu⟩ := hsome
      have hchanged := State.acknowledgeSlots_of_changed ⟨u, (hhit u).trans hu⟩ .request
      obtain ⟨tone, hreformed⟩ := (s.acknowledged .request (s.named sel)).reformHorn_eq s
      have hall := hchanged.trans hreformed
      have hset : s.ackSet (s.named sel) = .ofFn fun u => s.named sel u &&
          (decide ((s.slots.get u).signal.state = .flashing) || decide ((s.slots.get u).signal.state = .ringback)) :=
        Table.ext_get fun u => by rw [hhit, Table.get_ofFn]
      refine ⟨?_, ?_, ?_, ?_, ?_, ?_, ?_, fun u => ⟨fun hnot => ?_, fun hhits => ?_⟩⟩
      · rw [hall]
        rfl
      · rw [hchanged]
        exact State.reformHorn_toneSound _ _
      · rw [State.positionFollows, hchanged, State.reformHorn_hornKey, hreformed]
        rfl
      · rw [hall]
        rfl
      · rw [hall]
        exact congrArg (fun set => s.notices.arrive { epoch := s.cond.epochNumber, body := .acknowledged .request set }) hset
      · rw [hall]
        rfl
      · rw [hall]
        rfl
      · exact (s.acknowledgeSlots_get .request _ u).1 ((hhit u).trans hnot)
      · have hacked : (s.ackSet (s.named sel)).get u = true := (hhit u).trans hhits
        rw [(s.acknowledgeSlots_get .request _ u).2 hacked]
        rw [State.ackSet_get, Bool.and_eq_true] at hacked
        rw [Signal.acknowledge_of_changes hacked.2]
        rfl

end Sys2Proof.Machine

namespace Sys2Proof.Machine

/-! ## The beat (R100, R101, R103, R106, R108) -/

/-- Whether the press that a beat takes starts a chirp (R98, R106). -/
def State.chirpStarts (ackb : Bool) (s : State) : Bool :=
  (s.ann.debounce.sample ackb).2 && (s.ackSet fun u => s.isDefined u).cells.any id && s.applied.annunciator.chirpEnable

theorem State.beat_eq (ackb : Bool) (s : State) : ∃ tone, s.beat ackb = (s.sampleAckb ackb).setAnn
    { (s.sampleAckb ackb).ann with
      chirp := chirpAfter (s.chirpStarts ackb) s.ann.chirp
      hornPos := hornPosAfter s.ann.chirp (s.chirpStarts ackb) (s.sampleAckb ackb)
      fastPos := lampPosAfter (s.sampleAckb ackb).ann.lampReset s.applied.annunciator.fast.width
        (s.sampleAckb ackb).ann.fastPos
      slowPos := lampPosAfter (s.sampleAckb ackb).ann.lampReset s.applied.annunciator.slow.width
        (s.sampleAckb ackb).ann.slowPos
      beatTicks := 0
      tone := tone } := by
  obtain ⟨tone, e⟩ := State.reformTone_eq ((s.sampleAckb ackb).setAnn { (s.sampleAckb ackb).ann with
    chirp := chirpAfter (s.chirpStarts ackb) s.ann.chirp
    hornPos := hornPosAfter s.ann.chirp (s.chirpStarts ackb) (s.sampleAckb ackb)
    fastPos := lampPosAfter (s.sampleAckb ackb).ann.lampReset s.applied.annunciator.fast.width
      (s.sampleAckb ackb).ann.fastPos
    slowPos := lampPosAfter (s.sampleAckb ackb).ann.lampReset s.applied.annunciator.slow.width
      (s.sampleAckb ackb).ann.slowPos
    beatTicks := 0 })
  exact ⟨tone, e⟩

theorem State.beat_toneSound (ackb : Bool) (s : State) : (s.beat ackb).toneSound := State.reformTone_toneSound _

theorem exec_beatExpiry_of_due {s : State} (hrunning : s.time.phase = .running) (hdue : s.ann.beatTicks = 125000)
    (ackb : Bool) : exec (.beatExpiry ackb) s = .next (s.beat ackb) := by
  have hoccurs : (s.isRunning && s.ann.beatTicks == 125000) = true := by simp [State.isRunning, hrunning, hdue]
  exact congrArg Host.Outcome.next (if_pos hoccurs)

/-! ### Without a press -/

theorem Debounce.sample_of_no_press {d : Debounce} {ackb : Bool} (h : d ≠ .seen ∨ ackb = false) :
    d.sample ackb = (if ackb then (if d = .taken then .taken else .seen) else .idle, false) := by
  cases ackb with
  | false => cases d <;> rfl
  | true =>
    cases d with
    | seen => simp at h
    | idle | taken => rfl

theorem State.sampleAckb_of_no_press {s : State} {ackb : Bool} (h : s.ann.debounce ≠ .seen ∨ ackb = false) :
    s.sampleAckb ackb = s.setAnn { s.ann with
      debounce := if ackb then (if s.ann.debounce = .taken then .taken else .seen) else .idle } := by
  rw [State.sampleAckb, Debounce.sample_of_no_press h]
  rfl

/-- Settles O25: without a press only the debounce, the countdown, the positions and the tone move. -/
theorem beatWithoutAPress : Obligations.BeatWithoutAPress := by
  unfold Obligations.BeatWithoutAPress
  intro s ackb hrunning hdue hpress
  obtain ⟨tone, hbeat⟩ := s.beat_eq ackb
  have hstarts : s.chirpStarts ackb = false := by rw [State.chirpStarts, Debounce.sample_of_no_press hpress]; rfl
  refine ⟨s.beat ackb, exec_beatExpiry_of_due hrunning hdue ackb, s.beat_toneSound ackb, ?_⟩
  rw [hbeat, hstarts, State.sampleAckb_of_no_press hpress]
  simp only [hornPosAfter, chirpAfter, lampPosAfter, Bool.not_false, Bool.true_and, beq_iff_eq]
  rfl

/-! ### With a press -/

theorem State.sampleAckb_of_press {s : State} (h : s.ann.debounce = .seen) :
    s.sampleAckb true = (s.setAnn { s.ann with debounce := .taken }).acknowledgeSlots .button (fun u => s.isDefined u) := by
  rw [State.sampleAckb, h]
  rfl

theorem State.acknowledgeSlots_ann (src : AckSource) (sel : Fin 8 → Bool) (s : State) : ∃ chirp tone,
    (s.acknowledgeSlots src sel).ann = { s.ann with
      hornPos := if (s.acknowledgeSlots src sel).otherPattern s then 0 else s.ann.hornPos
      hornReset := if (s.acknowledgeSlots src sel).otherPattern s then true else s.ann.hornReset
      chirp := chirp
      tone := tone } := by
  by_cases h : ∃ u, (s.ackSet sel).get u = true
  · obtain ⟨tone, e⟩ := (s.acknowledged src sel).reformHorn_eq s
    have hall := (State.acknowledgeSlots_of_changed h src).trans e
    have hkey : (s.acknowledgeSlots src sel).hornKey = (s.acknowledged src sel).hornKey := by
      rw [State.acknowledgeSlots_of_changed h, State.reformHorn_hornKey]
    simp only [State.otherPattern, hkey]
    rw [hall]
    exact ⟨_, tone, rfl⟩
  · have hnone : ∀ u, (s.ackSet sel).get u = false := fun u => Bool.eq_false_iff.mpr fun hu => h ⟨u, hu⟩
    have hsame : ¬ s.otherPattern s := fun hother => hother.2 rfl
    refine ⟨s.ann.chirp, s.ann.tone, ?_⟩
    rw [State.acknowledgeSlots_of_unchanged hnone, if_neg hsame, if_neg hsame]

/-- The Annunciator after the beat that takes a press, but for the tone (R101, R103, R106, R108). -/
theorem State.beat_ann_of_press {s : State} (h : s.ann.debounce = .seen) : ∃ tone, (s.beat true).ann = { s.ann with
    debounce := .taken
    chirp := chirpAfter (s.chirpStarts true) s.ann.chirp
    hornPos := hornPosAfter s.ann.chirp (s.chirpStarts true) (s.sampleAckb true)
    hornReset := if (s.beat true).otherPattern s then true else s.ann.hornReset
    fastPos := lampPosAfter s.ann.lampReset s.applied.annunciator.fast.width s.ann.fastPos
    slowPos := lampPosAfter s.ann.lampReset s.applied.annunciator.slow.width s.ann.slowPos
    beatTicks := 0
    tone := tone } ∧ (s.sampleAckb true).ann.hornPos = (if (s.beat true).otherPattern s then 0 else s.ann.hornPos) ∧
    (s.sampleAckb true).ann.hornReset = (if (s.beat true).otherPattern s then true else s.ann.hornReset) ∧
    (s.beat true).hornKey = (s.sampleAckb true).hornKey := by
  obtain ⟨tone, hbeat⟩ := s.beat_eq true
  obtain ⟨chirp, tone', hann⟩ := State.acknowledgeSlots_ann .button (fun u => s.isDefined u)
    (s.setAnn { s.ann with debounce := .taken })
  have hbefore : (s.setAnn { s.ann with debounce := .taken }).hornKey = s.hornKey := State.hornKey_setAnn rfl
  have hkey : (s.beat true).hornKey = (s.sampleAckb true).hornKey := by
    rw [hbeat]
    exact State.hornKey_setAnn rfl
  simp only [State.otherPattern, hkey]
  rw [State.sampleAckb_of_press h] at hbeat hkey ⊢
  simp only [State.otherPattern, hbefore] at hann
  rw [hbeat, State.setAnn_ann]
  simp only [hann]
  exact ⟨tone, rfl, rfl, rfl, trivial⟩

theorem State.chirpStarts_of_press {s : State} (h : s.ann.debounce = .seen) : s.chirpStarts true =
    ((s.ackSet fun u => s.isDefined u).cells.any id && s.applied.annunciator.chirpEnable) := by
  rw [State.chirpStarts, h]
  rfl

/-- The horn position after the beat that takes a press (R103, R106). -/
theorem State.beat_hornPos_of_press {s : State} (h : s.ann.debounce = .seen) :
    ((s.beat true).ann.chirp = 0 → s.ann.chirp = 1 → (s.beat true).ann.hornPos = 0) ∧
    ((s.beat true).ann.chirp ≠ 0 ∨ s.ann.chirp ≠ 1 →
      ((s.beat true).hornKey = none → (s.beat true).ann.hornPos = s.ann.hornPos) ∧
      ((s.beat true).hornKey ≠ none → (s.beat true).hornKey ≠ s.hornKey → (s.beat true).ann.hornPos = 0) ∧
      ∀ n, (s.beat true).hornKey = some n → s.hornKey = some n → (s.beat true).ann.hornPos =
        if s.ann.chirp = 0 ∧ s.ann.hornReset = false then
          (s.ann.hornPos + 1) % (s.store.applied.annunciator.hornPattern n).width else s.ann.hornPos) := by
  obtain ⟨tone, hann, hpos, hreset, hkey⟩ := State.beat_ann_of_press h
  have happlied : (s.sampleAckb true).applied = s.applied := by
    rw [State.sampleAckb_of_press h, State.applied, State.acknowledgeSlots_store]
    rfl
  have hchirp : (s.beat true).ann.chirp = chirpAfter (s.chirpStarts true) s.ann.chirp := by rw [hann]
  have hhorn : (s.beat true).ann.hornPos = hornPosAfter s.ann.chirp (s.chirpStarts true) (s.sampleAckb true) := by rw [hann]
  rw [hhorn, hchirp]
  constructor
  · intro hzero hone
    have hstarts : s.chirpStarts true = false := Bool.eq_false_iff.mpr fun hstarts => by simp [chirpAfter, hstarts] at hzero
    simp [hornPosAfter, hstarts, hone]
  · intro hruns
    have hends : (!s.chirpStarts true && s.ann.chirp == 1) = false := by
      cases hstarts : s.chirpStarts true with
      | true => rfl
      | false =>
        rw [hstarts] at hruns
        have : s.ann.chirp ≠ 1 := fun hone => by simp [chirpAfter, hone] at hruns
        simpa using this
    simp only [hornPosAfter, hends, ← hkey, hpos, hreset, happlied, State.otherPattern]
    refine ⟨fun hnone => ?_, fun hsome hother => ?_, fun n hn hsame => ?_⟩
    · simp [hnone]
    · obtain ⟨n, hn⟩ := Option.ne_none_iff_exists'.mp hsome
      rw [hn] at hother
      simp [hn, hother]
    · simp [hn, hsame, advance]
      rfl

theorem State.beat_slots_of_press {s : State} (h : s.ann.debounce = .seen) : (s.beat true).slots =
    ((s.setAnn { s.ann with debounce := .taken }).acknowledgeSlots .button (fun u => s.isDefined u)).slots := by
  obtain ⟨_, hbeat⟩ := s.beat_eq true
  rw [hbeat, ← State.sampleAckb_of_press h]
  rfl

theorem State.beat_notices_of_press {s : State} (h : s.ann.debounce = .seen) : (s.beat true).notices =
    ((s.setAnn { s.ann with debounce := .taken }).acknowledgeSlots .button (fun u => s.isDefined u)).notices := by
  obtain ⟨_, hbeat⟩ := s.beat_eq true
  rw [hbeat, ← State.sampleAckb_of_press h]
  rfl

/-- A slot that is not defined, or has nothing to acknowledge, stands at the beat that takes a press. -/
theorem State.beat_get_of_not_acked {s : State} (h : s.ann.debounce = .seen) {u : Fin 8}
    (hnot : (s.ackSet fun u => s.isDefined u).get u = false) : (s.beat true).slots.get u = s.slots.get u := by
  rw [State.beat_slots_of_press h]
  exact ((s.setAnn { s.ann with debounce := .taken }).acknowledgeSlots_get .button (fun u => s.isDefined u) u).1 hnot

theorem State.beat_get_of_acked {s : State} (h : s.ann.debounce = .seen) {u : Fin 8}
    (hacked : (s.ackSet fun u => s.isDefined u).get u = true) : (s.beat true).slots.get u = { s.slots.get u with
      signal := (s.slots.get u).signal.acknowledge s.applied.general.annunciateAt (s.heardLevel u) } := by
  rw [State.beat_slots_of_press h]
  exact ((s.setAnn { s.ann with debounce := .taken }).acknowledgeSlots_get .button (fun u => s.isDefined u) u).2 hacked

/-- Settles O26: the press acknowledges every defined slot, and the beat moves the countdown and the positions. -/
theorem secondSampleAcknowledgesAll : Obligations.SecondSampleAcknowledgesAll := by
  unfold Obligations.SecondSampleAcknowledgesAll
  intro s hrunning hdue hseen
  obtain ⟨tone, hann, -, -, -⟩ := State.beat_ann_of_press hseen
  obtain ⟨slots, ann, notices, hframe⟩ := s.beat_frame true
  obtain ⟨hstopped, hruns⟩ := State.beat_hornPos_of_press hseen
  have hhit (u : Fin 8) : (s.ackSet fun u => s.isDefined u).get u = (s.isDefined u &&
      (decide ((s.slots.get u).signal.state = .flashing) || decide ((s.slots.get u).signal.state = .ringback))) := by
    rw [State.ackSet_get, Signal.ackChanges_eq]
  have hchirp : (s.beat true).ann.chirp = chirpAfter (s.chirpStarts true) s.ann.chirp := by rw [hann]
  refine ⟨s.beat true, exec_beatExpiry_of_due hrunning hdue true, by rw [hann], by rw [hann], by rw [hann],
    s.beat_toneSound true, by rw [hframe], fun u => ?_, ?_, fun hnone => ?_, hstopped, hruns, by rw [hann]; rfl,
    by rw [hann]; rfl⟩
  · have hmoves (hdefined : (s.store.applied.transformers.get u).defined = true)
        (hstate : (s.slots.get u).signal.state = .flashing ∨ (s.slots.get u).signal.state = .ringback) :
        ((s.beat true).slots.get u).signal =
          (s.slots.get u).signal.acknowledge s.applied.general.annunciateAt (s.heardLevel u) := by
      have hdefined : s.isDefined u = true := hdefined
      rw [State.beat_get_of_acked hseen (by rw [hhit, hdefined]; simpa using hstate)]
    have hparts : ((s.beat true).slots.get u).cur = (s.slots.get u).cur ∧
        ((s.beat true).slots.get u).thermal = (s.slots.get u).thermal ∧
        ((s.beat true).slots.get u).grade = (s.slots.get u).grade := by
      cases h : (s.ackSet fun u => s.isDefined u).get u with
      | false =>
        rw [State.beat_get_of_not_acked hseen h]
        exact ⟨rfl, rfl, rfl⟩
      | true =>
        rw [State.beat_get_of_acked hseen h]
        exact ⟨rfl, rfl, rfl⟩
    obtain ⟨hcur, hthermal, hgrade⟩ := hparts
    refine ⟨hcur, hthermal, hgrade, fun hundefined => State.beat_get_of_not_acked hseen ?_,
      fun hstate => State.beat_get_of_not_acked hseen ?_, fun hdefined hflash hA => ?_, fun hdefined hflash hA => ?_,
      fun hdefined hring => ?_⟩
    · have hundefined : s.isDefined u = false := hundefined
      rw [hhit, hundefined, Bool.false_and]
    · rw [hhit]
      rcases hstate with hstate | hstate <;> simp [hstate]
    · rw [hmoves hdefined (.inl hflash), Signal.acknowledge_of_changes (Signal.ackChanges_iff.mpr (.inl hflash)),
        if_pos ⟨hflash, hA⟩]
    · rw [hmoves hdefined (.inl hflash), Signal.acknowledge_of_changes (Signal.ackChanges_iff.mpr (.inl hflash)),
        if_neg fun h => absurd h.2 (not_le.mpr hA), if_pos hflash]
    · have hother : (s.slots.get u).signal.state ≠ .flashing := by rw [hring]; nofun
      rw [hmoves hdefined (.inr hring), Signal.acknowledge_of_changes (Signal.ackChanges_iff.mpr (.inr hring)),
        if_neg fun h => hother h.1, if_neg hother]
  · rintro ⟨u, hu⟩
    have hany : ∃ u, (s.ackSet fun u => s.isDefined u).get u = true := ⟨u, (hhit u).trans hu⟩
    have hset : (s.ackSet fun u => s.isDefined u) = .ofFn fun u => s.isDefined u &&
        (decide ((s.slots.get u).signal.state = .flashing) || decide ((s.slots.get u).signal.state = .ringback)) :=
      Table.ext_get fun u => by rw [hhit, Table.get_ofFn]
    have hstarts : s.chirpStarts true = s.applied.annunciator.chirpEnable := by
      rw [State.chirpStarts_of_press hseen, (State.any_ackSet_iff _ s).mpr hany, Bool.true_and]
    rw [hchirp, hstarts]
    refine ⟨?_, fun henabled => ?_, fun hdisabled => ?_⟩
    · rw [State.beat_notices_of_press hseen,
        State.acknowledgeSlots_of_changed (s := s.setAnn { s.ann with debounce := .taken }) hany, State.reformHorn_notices]
      exact congrArg (fun set => s.notices.arrive { epoch := s.cond.epochNumber, body := .acknowledged .button set }) hset
    · have henabled : s.applied.annunciator.chirpEnable = true := henabled
      rw [henabled]
      rfl
    · have hdisabled : s.applied.annunciator.chirpEnable = false := hdisabled
      rw [hdisabled]
      rfl
  · have hnone (u : Fin 8) : (s.ackSet fun u => s.isDefined u).get u = false := (hhit u).trans (hnone u)
    have hstarts : s.chirpStarts true = false := by
      rw [State.chirpStarts_of_press hseen, Bool.and_eq_false_iff]
      refine .inl (Bool.eq_false_iff.mpr fun hany => ?_)
      obtain ⟨u, hu⟩ := (State.any_ackSet_iff _ s).mp hany
      exact absurd hu (Bool.eq_false_iff.mp (hnone u))
    rw [hchirp, hstarts, State.beat_notices_of_press hseen,
      State.acknowledgeSlots_of_unchanged (s := s.setAnn { s.ann with debounce := .taken }) hnone]
    exact ⟨rfl, rfl⟩

end Sys2Proof.Machine

namespace Sys2Proof.Machine

/-! ## A trigger by the capture state that it finds (R120 to R122, R126) -/

section
variable {s : State} (hrdy : Bool) (tr : Trigger)

theorem State.takeTrigger_of_armed (hstate : s.capture.state = .armed) (hhold : s.capture.holdPending = false) :
    s.takeTrigger hrdy tr = s.setCapture (s.capture.trigger s.applied.general.preDepth tr) := by
  simp only [State.takeTrigger, hstate, hhold, Bool.false_eq_true, if_false]

theorem State.takeTrigger_of_pending (hstate : s.capture.state = .armed) (hhold : s.capture.holdPending = true) :
    s.takeTrigger hrdy tr = (s.setCapture { s.capture.trigger s.applied.general.preDepth tr with
      holdPending := false }).answer .busy [] hrdy := by
  simp only [State.takeTrigger, hstate, hhold, if_true, State.setCapture]

theorem State.takeTrigger_of_held (hstate : s.capture.state = .held) : s.takeTrigger hrdy tr =
    (s.setCapture (s.capture.trigger s.applied.general.preDepth tr)).notify (.holdRevoked tr.cause) := by
  simp only [State.takeTrigger, hstate]

theorem State.takeTrigger_of_recording (hstate : s.capture.state = .triggered ∨ s.capture.state = .frozen) :
    s.takeTrigger hrdy tr = { s with
      capture := s.capture.miss
      notices := if s.capture.missReported then s.notices
        else s.notices.arrive { epoch := s.cond.epochNumber, body := .captureMissed tr.cause } } := by
  cases hreported : s.capture.missReported <;> rcases hstate with hstate | hstate <;>
    simp only [State.takeTrigger, hstate, hreported] <;> rfl

/-- In ARMED or HELD a trigger is taken, with nothing missed. -/
theorem State.takeTrigger_capture_of_free (hstate : s.capture.state = .armed ∨ s.capture.state = .held) :
    (s.takeTrigger hrdy tr).capture.state = .triggered ∧ (s.takeTrigger hrdy tr).capture.record = some tr ∧
      (s.takeTrigger hrdy tr).capture.missed = s.capture.missed ∧
      (s.takeTrigger hrdy tr).capture.missReported = s.capture.missReported := by
  rcases hstate with hstate | hstate
  · cases hhold : s.capture.holdPending with
    | false =>
      rw [State.takeTrigger_of_armed hrdy tr hstate hhold]
      exact ⟨rfl, rfl, rfl, rfl⟩
    | true =>
      rw [State.takeTrigger_of_pending hrdy tr hstate hhold, State.answer_capture]
      exact ⟨rfl, rfl, rfl, rfl⟩
  · rw [State.takeTrigger_of_held hrdy tr hstate]
    exact ⟨rfl, rfl, rfl, rfl⟩

/-- Triggers that find the ring TRIGGERED or FROZEN are counted as missed, to at most 255. -/
theorem State.takeTriggers_of_recording (trs : List Trigger) : ∀ {s : State},
    (s.capture.state = .triggered ∨ s.capture.state = .frozen) → s.capture.missed ≤ 255 →
      (s.takeTriggers hrdy trs).capture.state = s.capture.state ∧
      (s.takeTriggers hrdy trs).capture.record = s.capture.record ∧
      (s.takeTriggers hrdy trs).capture.missed = min 255 (s.capture.missed + trs.length) := by
  induction trs with
  | nil => exact fun {s} _ hmissed => ⟨rfl, rfl, by simp [State.takeTriggers]; omega⟩
  | cons tr trs ih =>
    intro s hstate hmissed
    have htr := State.takeTrigger_of_recording (s := s) hrdy tr hstate
    have hcapture : (s.takeTrigger hrdy tr).capture = s.capture.miss := by rw [htr]
    obtain ⟨hstays, hrecord, hcount⟩ := ih (s := s.takeTrigger hrdy tr) (by rw [hcapture]; exact hstate)
      (by rw [hcapture]; exact Nat.min_le_left ..)
    rw [hcapture] at hstays hrecord hcount
    refine ⟨hstays, hrecord, hcount.trans ?_⟩
    simp only [Capture.miss, List.length_cons]
    omega

end

/-! ## LEVEL triggers in ascending slot order (R87) -/

theorem perm_ascending {trs : List Trigger} (h : ∀ tr ∈ trs, ∃ v, tr.cause = .level v) : (ascending trs).Perm trs := by
  rw [List.perm_iff_count]
  intro x
  rw [ascending, List.count_flatMap]
  by_cases hx : x ∈ trs
  · obtain ⟨v, hv⟩ := h x hx
    have hterm : (List.count x ∘ fun t => trs.filter fun tr => decide (tr.cause = .level t)) =
        fun t => if t = v then trs.count x else 0 := by
      refine funext fun t => ?_
      by_cases ht : t = v
      · subst ht
        simp only [Function.comp, if_true]
        exact List.count_filter (decide_eq_true hv)
      · have hother : x ∉ trs.filter fun tr => decide (tr.cause = .level t) := by
          simp [hv, Ne.symm ht]
        simpa [ht] using List.count_eq_zero.mpr hother
    have hsum : ∀ v : Fin 8, ((List.finRange 8).map fun t => if t = v then 1 else 0).sum = 1 := by decide
    have hscale := List.sum_map_mul_right (List.finRange 8) (fun t => if t = v then 1 else 0) (trs.count x)
    rw [hsum, Nat.one_mul] at hscale
    simp only [ite_mul, Nat.one_mul, Nat.zero_mul] at hscale
    rw [hterm, hscale]
  · have hzero : (List.count x ∘ fun t => trs.filter fun tr => decide (tr.cause = .level t)) = fun _ => 0 :=
      funext fun t => List.count_eq_zero.mpr fun hmem => hx (List.mem_of_mem_filter hmem)
    rw [hzero, List.count_eq_zero.mpr hx]
    simp

/-- The trigger of the lowest slot comes first (R87). -/
theorem ascending_first {trs : List Trigger} {first : Trigger} {u : Fin 8} (hmem : first ∈ trs)
    (hcause : first.cause = .level u) (h : ∀ tr ∈ trs, tr = first ∨ ∃ v, u < v ∧ tr.cause = .level v) :
    ∃ rest, ascending trs = first :: rest := by
  obtain ⟨below, above, hsplit⟩ := List.append_of_mem (List.mem_finRange u)
  have hbelow : ∀ v ∈ below, v < u := by
    have hsorted := List.pairwise_lt_finRange 8
    rw [hsplit, List.pairwise_append] at hsorted
    exact fun v hv => hsorted.2.2 v hv u (List.mem_cons_self ..)
  have hskip : (below.flatMap fun t => trs.filter fun tr => decide (tr.cause = .level t)) = [] := by
    simp only [List.flatMap_eq_nil_iff, List.filter_eq_nil_iff, decide_eq_true_eq]
    intro v hv tr htr hlevel
    rcases h tr htr with rfl | ⟨w, hw, hlevel'⟩
    · rw [hcause] at hlevel
      cases hlevel
      exact absurd (hbelow u hv) (lt_irrefl u)
    · rw [hlevel'] at hlevel
      cases hlevel
      exact absurd (hbelow v hv) (lt_asymm hw)
  rw [ascending, hsplit, List.flatMap_append, hskip, List.nil_append, List.flatMap_cons]
  cases hown : trs.filter fun tr => decide (tr.cause = .level u) with
  | nil =>
    have : first ∈ trs.filter fun tr => decide (tr.cause = .level u) := List.mem_filter.mpr ⟨hmem, by simpa using hcause⟩
    simp [hown] at this
  | cons a as =>
    have ha : a ∈ trs.filter fun tr => decide (tr.cause = .level u) := hown ▸ List.mem_cons_self ..
    obtain ⟨hin, hlevel⟩ := List.mem_filter.mp ha
    rcases h a hin with rfl | ⟨v, hv, hlevel'⟩
    · exact ⟨_, rfl⟩
    · rw [decide_eq_true_eq, hlevel'] at hlevel
      cases hlevel
      exact absurd hv (lt_irrefl u)

theorem exec_levels_of_awaits {s : State} (h : s.awaits .levels) (hrdy : Bool) :
    exec (.epochCompletion [.levels] false hrdy) s =
      .next (({ s with flight := { s.flight with parts := s.flight.parts.filter (· ≠ .levels), levels := [] } } :
        State).takeTriggers hrdy (ascending s.flight.levels)) := exec_epochCompletion_of_awaits h rfl hrdy

/-- Settles O22: a LEVEL trigger by the capture state, the lowest slot's first. -/
theorem levelTriggerByCaptureState : Obligations.LevelTriggerByCaptureState := by
  unfold Obligations.LevelTriggerByCaptureState
  refine ⟨?_, ?_, ?_⟩
  · intro s u cyc ep hrdy hawaits hlevels tr depth kept taken rest out
    have hout : out = .next (({ s with flight := rest } : State).takeTrigger hrdy tr) := by
      have hone : ascending [tr] = [tr] := by
        have hperm := perm_ascending (trs := [tr]) (by simp [tr])
        exact List.perm_singleton.mp hperm
      refine (exec_levels_of_awaits hawaits hrdy).trans ?_
      rw [hlevels]
      exact congrArg (fun trs => Host.Outcome.next (State.takeTriggers hrdy trs { s with flight := rest })) hone
    rw [hout]
    refine ⟨fun hstate hhold => ?_, fun hstate hhold r hr => ?_, fun hstate => ?_, fun hstate => ?_⟩
    · exact congrArg Host.Outcome.next (State.takeTrigger_of_armed (s := { s with flight := rest }) hrdy tr hstate hhold)
    · refine congrArg Host.Outcome.next
        ((State.takeTrigger_of_pending (s := { s with flight := rest }) hrdy tr hstate hhold).trans ?_)
      exact State.answerTo_eq _ _ _ _ r.stage _ _ _ _ hr
    · exact congrArg Host.Outcome.next (State.takeTrigger_of_held (s := { s with flight := rest }) hrdy tr hstate)
    · exact congrArg Host.Outcome.next (State.takeTrigger_of_recording (s := { s with flight := rest }) hrdy tr hstate)
  · intro s first u hrdy hawaits hmissed hstate hmem hcause hall
    have hlevel : ∀ tr ∈ s.flight.levels, ∃ v, tr.cause = .level v := fun tr htr =>
      (hall tr htr).elim (fun h => ⟨u, h ▸ hcause⟩) fun ⟨v, _, h⟩ => ⟨v, h⟩
    obtain ⟨rest, hrest⟩ := ascending_first hmem hcause hall
    have hlength := (perm_ascending hlevel).length_eq
    rw [hrest, List.length_cons] at hlength
    refine ⟨_, exec_levels_of_awaits hawaits hrdy, ?_⟩
    obtain ⟨htriggered, hrecord, hkept, -⟩ := State.takeTrigger_capture_of_free hrdy first
      (s := { s with flight := { s.flight with parts := s.flight.parts.filter (· ≠ .levels), levels := [] } }) hstate
    obtain ⟨hstays, hrecorded, hcount⟩ := State.takeTriggers_of_recording hrdy rest (.inl htriggered) (hkept ▸ hmissed)
    rw [hrest]
    refine ⟨by rw [State.takeTriggers_flight], hstays.trans htriggered, hrecorded.trans hrecord, hcount.trans ?_⟩
    rw [hkept, ← hlength]
    rfl
  · intro s a b u v hrdy hawaits hmissed hstate hhold hreported hlevels ha hb huv
    have hmem (tr : Trigger) : tr ∈ s.flight.levels ↔ tr = a ∨ tr = b := by
      rcases hlevels with hlevels | hlevels <;> simp [hlevels, or_comm]
    have hlevel : ∀ tr ∈ s.flight.levels, ∃ w, tr.cause = .level w := fun tr htr =>
      ((hmem tr).mp htr).elim (fun h => ⟨u, h.symm ▸ ha⟩) fun h => ⟨v, h.symm ▸ hb⟩
    obtain ⟨rest, hrest⟩ := ascending_first ((hmem a).mpr (.inl rfl)) ha fun tr htr =>
      ((hmem tr).mp htr).imp_right fun (h : tr = b) => ⟨v, huv, h.symm ▸ hb⟩
    have hperm : s.flight.levels.Perm [a, b] := by
      rcases hlevels with hlevels | hlevels <;> rw [hlevels]
      exact .swap a b []
    have hrestb : rest = [b] := by
      have h := (perm_ascending hlevel).trans hperm
      rw [hrest, List.perm_cons] at h
      exact List.perm_singleton.mp h
    rw [hrestb] at hrest
    refine ⟨_, exec_levels_of_awaits hawaits hrdy, ?_⟩
    rw [hrest]
    have hfirst := State.takeTrigger_of_armed hrdy a
      (s := { s with flight := { s.flight with parts := s.flight.parts.filter (· ≠ .levels), levels := [] } }) hstate hhold
    simp only [State.takeTriggers, List.foldl_cons, List.foldl_nil, hfirst]
    rw [State.takeTrigger_of_recording hrdy b (.inl rfl), ← hb]
    refine ⟨rfl, ?_⟩
    exact if_neg (Bool.eq_false_iff.mp hreported)

end Sys2Proof.Machine

namespace Sys2Proof.Machine

/-! ## What a level change tells and hands on (R81 to R83, R85, R86) -/

section
variable (u : Fin 8) (h : Handed) (s : State)

/-- The change that a grading hands to the Annunciator: one if the level has moved (R85). -/
theorem State.gradeOn_changes_eq : (s.gradeOn u h).flight.changes = s.flight.changes ++
    if (s.gradeAfter u h).level = (s.slots.get u).grade.level then []
    else [{ slot := u, old := (s.slots.get u).grade.level, new := (s.gradeAfter u h).level }] := by
  rcases s.gradeOn_cases u h with ⟨hkept, e⟩ | ⟨hmoved, e⟩ <;> rw [e]
  · rw [if_pos hkept, List.append_nil]
    rfl
  · rw [if_neg hmoved]
    rfl

theorem State.gradeOn_notices_eq : (s.gradeOn u h).notices =
    if (s.gradeAfter u h).level = (s.slots.get u).grade.level then s.notices else s.notices.arrive
      { epoch := s.cond.epochNumber, body := levelNotice u (s.slots.get u).grade.level (s.gradeAfter u h) } := by
  rcases s.gradeOn_cases u h with ⟨hkept, e⟩ | ⟨hmoved, e⟩ <;> rw [e]
  · rw [if_pos hkept]
    rfl
  · rw [if_neg hmoved]
    rfl

/-- A grading hands on a LEVEL trigger exactly for a rise that meets the capture trigger level (R86). -/
theorem State.gradeOn_levels_eq : (s.gradeOn u h).flight.levels = s.flight.levels ++
    if levelTriggers s.applied.general.captureLevel (s.slots.get u).grade.level (s.gradeAfter u h).level
      then [s.levelTrigger u] else [] := by
  rcases s.gradeOn_cases u h with ⟨hkept, e⟩ | ⟨-, e⟩ <;> rw [e]
  · have hnone : levelTriggers s.applied.general.captureLevel (s.slots.get u).grade.level (s.slots.get u).grade.level =
        false := by simp [levelTriggers]
    rw [hkept, hnone, if_neg Bool.false_ne_true, List.append_nil]
    rfl
  · rfl

end

theorem levelTriggers_iff {trig old new : Level} :
    levelTriggers trig old new = true ↔ old < new ∧ trig ≠ 0 ∧ trig ≤ new := by
  simp [levelTriggers, and_assoc]

/-! ## The Annunciator takes a level change (R85, R92 to R94, R102, R103) -/

theorem Signal.levelChange_of_clear {x : Signal} (h : x.state = .quiet ∨ x.state = .ringback) (A old new : Level) :
    x.levelChange A old new = if A ≤ new then (.flashAt new, true) else (x, false) := by
  obtain ⟨state, flash, acked⟩ := x
  rcases h with h | h <;> cases h <;> rfl

theorem Signal.levelChange_of_flashing {x : Signal} (h : x.state = .flashing) (A old new : Level) :
    x.levelChange A old new = if old < new ∧ x.flash < new then ({ x with flash := new }, true) else (x, false) := by
  obtain ⟨state, flash, acked⟩ := x
  cases h
  rfl

theorem Signal.levelChange_of_steady {x : Signal} (h : x.state = .steady) (A old new : Level) :
    x.levelChange A old new = if new < A then ({ x with state := .ringback }, false)
      else if x.acked < new then (.flashAt new, true) else (x, false) := by
  obtain ⟨state, flash, acked⟩ := x
  cases h
  rfl

theorem State.putSignal_ann (u : Fin 8) (r : Signal × Bool) (s : State) :
    (s.putSignal u r).ann = { s.ann with silenced := if r.2 then false else s.ann.silenced } := by
  unfold State.putSignal
  cases r.2 <;> rfl

theorem State.annunciate_ann (u : Fin 8) (old new : Level) (s : State) : ∃ tone, (s.annunciate u old new).ann = { s.ann with
    silenced := if ((s.slots.get u).signal.levelChange s.applied.general.annunciateAt old new).2 then false
      else s.ann.silenced
    hornPos := if (s.annunciate u old new).otherPattern s then 0 else s.ann.hornPos
    hornReset := if (s.annunciate u old new).otherPattern s then true else s.ann.hornReset
    tone := tone } := by
  obtain ⟨tone, e⟩ := (s.putSignal u ((s.slots.get u).signal.levelChange s.applied.general.annunciateAt old
    new)).reformHorn_eq s
  refine ⟨tone, ?_⟩
  simp only [State.otherPattern, State.annunciate, State.reformHorn_hornKey]
  rw [e, State.setAnn_ann, State.putSignal_ann]

theorem State.hearChange_of_some {s : State} {u : Fin 8} {h : LevelChange} (hchange : s.flight.changeOf u = some h)
    (hdefined : s.isDefined u = true) : s.hearChange u =
      (s.setFlight { s.flight with changes := s.flight.changes.filter fun h => h.slot ≠ u }).annunciate u h.old h.new := by
  simp only [State.hearChange, hchange, hdefined, if_true]

theorem State.hearChange_of_none {s : State} {u : Fin 8} (hchange : s.flight.changeOf u = none) : s.hearChange u =
    s.setFlight { s.flight with changes := s.flight.changes.filter fun h => h.slot ≠ u } := by
  simp only [State.hearChange, hchange]

/-- The Annunciator's taking of a change reaches the slot's annunciation record and its own, and takes the change away. -/
theorem State.hearChange_frame (u : Fin 8) (s : State) :
    s.hearChange u = { s with slots := (s.hearChange u).slots, ann := (s.hearChange u).ann, flight := { s.flight with
      changes := s.flight.changes.filter fun h => h.slot ≠ u } } ∧
    (s.hearChange u).slots = s.slots.set u { s.slots.get u with signal := ((s.hearChange u).slots.get u).signal } ∧
    (s.hearChange u).ann = { s.ann with
      silenced := (s.hearChange u).ann.silenced, hornPos := (s.hearChange u).ann.hornPos
      tone := (s.hearChange u).ann.tone, hornReset := (s.hearChange u).ann.hornReset } := by
  refine ⟨State.ext_blocks (by simp) (by simp) (by simp) (by simp) (by simp) rfl rfl (by simp) (by simp) (by simp) (by simp)
    (s.hearChange_flight u), ?_, ?_⟩
  all_goals
    rcases s.hearChange_cases u with ⟨e, -⟩ | ⟨h, -, -, e⟩ <;> rw [e]
  · refine Table.ext_get fun v => ?_
    rw [Table.get_set]
    split
    · next hv => rw [hv]; rfl
    · rfl
  · rw [State.annunciate_slots, Table.get_set_self]
    rfl
  · rfl
  · obtain ⟨tone, hann⟩ := State.annunciate_ann u h.old h.new
      (s.setFlight { s.flight with changes := s.flight.changes.filter fun h => h.slot ≠ u })
    rw [hann]
    rfl

/-- Settles O21: the grading tells and hands on its change, and the Annunciator takes it by the slot's state. -/
theorem levelChangeOfASlot : Obligations.LevelChangeOfASlot := by
  unfold Obligations.LevelChangeOfASlot
  refine ⟨fun s u hrdy hawaits hhanded hdefined => ?_, fun s u hrdy hawaits hdefined => ?_⟩
  · obtain ⟨h, hhanded⟩ := Option.ne_none_iff_exists'.mp hhanded
    refine ⟨_, exec_grade_of_awaits hawaits hdefined hhanded hrdy, ?_⟩
    have hslot : ((s.takeHanded u).gradeOn u h).slots.get u = { s.slots.get u with grade := s.gradeAfter u h } := by
      rw [State.gradeOn_slots, Table.get_set_self]
      rfl
    have hchanges : ((s.takeHanded u).gradeOn u h).flight.changes = s.flight.changes ++
        if (s.gradeAfter u h).level = (s.slots.get u).grade.level then []
        else [{ slot := u, old := (s.slots.get u).grade.level, new := (s.gradeAfter u h).level }] :=
      State.gradeOn_changes_eq u h (s.takeHanded u)
    have hnotices : ((s.takeHanded u).gradeOn u h).notices =
        if (s.gradeAfter u h).level = (s.slots.get u).grade.level then s.notices else s.notices.arrive
          { epoch := s.cond.epochNumber, body := levelNotice u (s.slots.get u).grade.level (s.gradeAfter u h) } :=
      State.gradeOn_notices_eq u h (s.takeHanded u)
    have hlevels : ((s.takeHanded u).gradeOn u h).flight.levels = s.flight.levels ++
        if levelTriggers s.applied.general.captureLevel (s.slots.get u).grade.level (s.gradeAfter u h).level
          then [s.levelTrigger u] else [] := by
      have htrigger : (s.takeHanded u).levelTrigger u = s.levelTrigger u := by
        simp [State.levelTrigger, State.lastCompleted, State.takeHanded]
      exact htrigger ▸ State.gradeOn_levels_eq u h (s.takeHanded u)
    have hgrade : (((s.takeHanded u).gradeOn u h).slots.get u).grade = s.gradeAfter u h := congrArg Slot.grade hslot
    dsimp only
    rw [hgrade, hchanges, hnotices, hlevels]
    refine ⟨by rw [hslot], State.gradeOn_ann .., fun hsame => ?_, fun hmoves => ?_, fun hnone => ?_,
      fun hrises htrig hmeets => ?_, fun hnot => ?_⟩
    · rw [if_pos hsame, if_pos hsame, List.append_nil]
      exact ⟨rfl, rfl⟩
    · rw [if_neg hmoves, if_neg hmoves]
      exact ⟨rfl, rfl⟩
    · by_cases hsame : (s.gradeAfter u h).level = (s.slots.get u).grade.level
      · rw [if_pos hsame, List.append_nil] at hchanges
        refine (State.heardLevel_of_none _ u ?_).trans ((congrArg Grade.level hgrade).trans hsame)
        rw [Flight.changeOf, hchanges]
        exact hnone
      · rw [if_neg hsame] at hchanges
        refine State.heardLevel_of_some _ u { slot := u, old := (s.slots.get u).grade.level,
                                                 new := (s.gradeAfter u h).level } ?_
        have hnone : s.flight.changes.find? (fun h => decide (h.slot = u)) = none := hnone
        rw [Flight.changeOf, hchanges, List.find?_append, hnone]
        simp
    · have htriggers : levelTriggers s.applied.general.captureLevel (s.slots.get u).grade.level
          (s.gradeAfter u h).level = true := levelTriggers_iff.mpr ⟨hrises, htrig, hmeets⟩
      rw [if_pos htriggers]
      rfl
    · rw [if_neg, List.append_nil]
      rintro htriggers
      obtain ⟨hrises, htrig, hmeets⟩ := levelTriggers_iff.mp htriggers
      rcases hnot with hnot | hnot | hnot
      · exact absurd hrises (not_lt.mpr hnot)
      · exact htrig hnot
      · exact absurd hmeets (not_le.mpr hnot)
  · have hexec : exec (.epochCompletion [.annunciate u] false hrdy) s = .next ((s.without (.annunciate u)).hearChange u) :=
      exec_epochCompletion_of_awaits hawaits rfl hrdy
    obtain ⟨hframe, hslots, hann⟩ := State.hearChange_frame u (s.without (.annunciate u))
    have hlevel : (((s.without (.annunciate u)).hearChange u).slots.get u).grade = (s.slots.get u).grade := by
      rw [hslots, Table.get_set_self]
      rfl
    refine ⟨_, hexec, hframe, hslots, hann, ?_, fun hnone => ?_, fun old new hchange => ?_⟩
    · refine (State.heardLevel_of_none _ u ?_).trans (congrArg Grade.level hlevel)
      rw [State.hearChange_flight, Flight.changeOf_none_iff]
      simp
    · rw [State.hearChange_of_none (s := s.without (.annunciate u)) hnone]
      exact ⟨rfl, rfl⟩
    · have hheard := State.hearChange_of_some (s := s.without (.annunciate u)) hchange hdefined
      obtain ⟨tone, hpanel⟩ := State.annunciate_ann u old new ((s.without (.annunciate u)).setFlight
        { (s.without (.annunciate u)).flight with
          changes := (s.without (.annunciate u)).flight.changes.filter fun h => h.slot ≠ u })
      have hsignal : (((s.without (.annunciate u)).hearChange u).slots.get u).signal =
          ((s.slots.get u).signal.levelChange s.store.applied.general.annunciateAt old new).1 := by
        rw [hheard, State.annunciate_slots, Table.get_set_self]
        rfl
      have hsilenced : ((s.without (.annunciate u)).hearChange u).ann.silenced =
          if ((s.slots.get u).signal.levelChange s.store.applied.general.annunciateAt old new).2 then false
            else s.ann.silenced := by
        rw [hheard, hpanel]
        rfl
      rw [hsignal, hsilenced]
      refine ⟨?_, hheard ▸ State.reformHorn_toneSound _ _, fun hclear hA => ?_, fun hclear hA => ?_,
        fun hflash hrise hhigher => ?_, fun hflash hnot => ?_, fun hsteady hA => ?_, fun hsteady hA hacked => ?_,
        fun hsteady hA hacked => ?_⟩
      · rw [State.positionFollows, hheard, hpanel]
        rfl
      · rw [Signal.levelChange_of_clear hclear, if_pos hA]
        exact ⟨rfl, rfl⟩
      · rw [Signal.levelChange_of_clear hclear, if_neg (not_le.mpr hA)]
        exact ⟨rfl, rfl⟩
      · rw [Signal.levelChange_of_flashing hflash, if_pos ⟨hrise, hhigher⟩]
        exact ⟨rfl, rfl⟩
      · rw [Signal.levelChange_of_flashing hflash, if_neg fun h => hnot.elim (not_le.mpr h.1) (not_le.mpr h.2)]
        exact ⟨rfl, rfl⟩
      · rw [Signal.levelChange_of_steady hsteady, if_pos hA]
        exact ⟨rfl, rfl⟩
      · rw [Signal.levelChange_of_steady hsteady, if_neg (not_lt.mpr hA), if_pos hacked]
        exact ⟨rfl, rfl⟩
      · rw [Signal.levelChange_of_steady hsteady, if_neg (not_lt.mpr hA), if_neg (not_lt.mpr hacked)]
        exact ⟨rfl, rfl⟩

end Sys2Proof.Machine

namespace Sys2Proof.Machine

/-! ## The Annunciator across an apply (R54, R95, R103, R112) -/

/-- Between `a` and `b` nothing of the Annunciator has moved but the silenced mark, the horn position and its mark. -/
def Annunciator.movesHorn (a b : Annunciator) : Prop :=
  b = { a with silenced := b.silenced, hornPos := b.hornPos, hornReset := b.hornReset }

theorem Annunciator.movesHorn_refl (a : Annunciator) : a.movesHorn a := rfl

theorem Annunciator.movesHorn.trans {a b c : Annunciator} (h : a.movesHorn b) (h' : b.movesHorn c) : a.movesHorn c := by
  rw [Annunciator.movesHorn] at h h' ⊢
  rw [h'.trans (by rw [h])]

/-- Between `x` and `y` the pattern in use is formed anew: the position is 0 if the pattern has become another, and else
stands. -/
abbrev State.repatterned (x y : State) : Prop :=
  y.ann.hornPos = if y.otherPattern x then 0 else x.ann.hornPos

/-- The re-evaluation of one slot under a new A clears the silenced mark exactly on an entry to FLASHING (R95, R102). -/
theorem State.reevaluate_ann (a : Level) (s : State) (u : Fin 8) :
    s.ann.movesHorn (s.reevaluate a u).ann ∧ s.repatterned (s.reevaluate a u) ∧
    (s.reevaluate a u).ann.silenced =
      if s.isDefined u = true ∧ ((s.slots.get u).signal.newA a (s.slots.get u).grade.level).2 = true then false
      else s.ann.silenced := by
  cases hdefined : s.isDefined u with
  | false =>
    have hstands : s.reevaluate a u = s := by rw [State.reevaluate, hdefined]; rfl
    have hsame : ¬ s.otherPattern s := fun h => h.2 rfl
    rw [hstands, State.repatterned, if_neg hsame]
    exact ⟨Annunciator.movesHorn_refl _, rfl, rfl⟩
  | true =>
    have hmoves : s.reevaluate a u =
        (s.putSignal u ((s.slots.get u).signal.newA a (s.slots.get u).grade.level)).reformPattern s := by
      rw [State.reevaluate, hdefined]; rfl
    have hkey : (s.reevaluate a u).hornKey =
        (s.putSignal u ((s.slots.get u).signal.newA a (s.slots.get u).grade.level)).hornKey := by
      rw [hmoves, State.reformPattern_eq]
      exact State.hornKey_setAnn rfl
    simp only [State.repatterned, State.otherPattern, hkey]
    rw [hmoves, State.reformPattern_eq, State.setAnn_ann, State.putSignal_ann]
    refine ⟨rfl, rfl, ?_⟩
    simp

theorem State.applySlots_ann (old new : Settings) (s : State) : s.ann.movesHorn (s.applySlots old new).ann ∧
    s.repatterned (s.applySlots old new) ∧ (s.applySlots old new).ann.silenced = s.ann.silenced := by
  have hkey : (s.applySlots old new).hornKey =
      (s.setSlots (.ofFn fun t => (s.slots.get t).apply (slotClass old new t))).hornKey := by
    rw [State.applySlots, State.reformPattern_eq]
    exact State.hornKey_setAnn rfl
  simp only [State.repatterned, State.otherPattern, hkey]
  rw [State.applySlots, State.reformPattern_eq]
  exact ⟨rfl, rfl, rfl⟩

/-! ### The request and its pattern only rise in a re-evaluation (R95, R103) -/

/-- From one pattern in use to the other the request does not end and the level does not fall. -/
def keyRises (k k' : Option Level) : Prop := ∀ n, k = some n → ∃ m, k' = some m ∧ n ≤ m

theorem keyRises_refl (k : Option Level) : keyRises k k := fun n hn => ⟨n, hn, le_refl n⟩

theorem keyRises.trans {a b c : Option Level} (h : keyRises a b) (h' : keyRises b c) : keyRises a c := fun n hn => by
  obtain ⟨m, hm, hnm⟩ := h n hn
  obtain ⟨l, hl, hml⟩ := h' m hm
  exact ⟨l, hl, hnm.trans hml⟩

theorem keyRises.antisymm {a b : Option Level} (h : keyRises a b) (h' : keyRises b a) : a = b := by
  cases ha : a with
  | none =>
    cases hb : b with
    | none => rfl
    | some m =>
      obtain ⟨n, hn, -⟩ := h' m hb
      rw [ha] at hn
      cases hn
  | some n =>
    obtain ⟨m, hm, hnm⟩ := h n ha
    obtain ⟨l, hl, hml⟩ := h' m hm
    rw [ha] at hl
    cases hl
    rw [hm, le_antisymm hnm hml]

theorem Signal.newA_of_clear {x : Signal} (h : x.state = .quiet ∨ x.state = .ringback) (A n : Level) :
    x.newA A n = if A ≤ n then (.flashAt n, true) else (x, false) := by
  obtain ⟨state, flash, acked⟩ := x
  rcases h with h | h <;> cases h <;> rfl

theorem Signal.newA_of_steady {x : Signal} (h : x.state = .steady) (A n : Level) :
    x.newA A n = if n < A then ({ x with state := .ringback }, false) else (x, false) := by
  obtain ⟨state, flash, acked⟩ := x
  cases h
  rfl

theorem Signal.newA_of_flashing {x : Signal} (h : x.state = .flashing) (A n : Level) : x.newA A n = (x, false) := by
  obtain ⟨state, flash, acked⟩ := x
  cases h
  rfl

/-- A re-evaluation that clears the silenced mark leaves the slot FLASHING. -/
theorem Signal.newA_flashing {x : Signal} {A n : Level} (h : (x.newA A n).2 = true) : (x.newA A n).1.state = .flashing := by
  obtain ⟨state, flash, acked⟩ := x
  cases state with
  | quiet | ringback =>
    rw [Signal.newA_of_clear (by simp)] at h ⊢
    split at h
    · next hA => rw [if_pos hA]; rfl
    · cases h
  | steady =>
    rw [Signal.newA_of_steady rfl] at h
    split at h <;> cases h
  | flashing =>
    rw [Signal.newA_of_flashing rfl] at h
    cases h

theorem State.reevaluate_flashing {s : State} {v : Fin 8} (h : (s.slots.get v).signal.state = .flashing) (a : Level)
    (u : Fin 8) : ((s.reevaluate a u).slots.get v).signal = (s.slots.get v).signal := by
  rw [State.reevaluate_slots]
  split
  · exact congrArg Prod.fst (Signal.newA_of_flashing h a _)
  · rfl

theorem State.reevaluate_keyRises (a : Level) (s : State) (u : Fin 8) : keyRises s.hornKey (s.reevaluate a u).hornKey := by
  intro n hn
  obtain ⟨hsilenced, ⟨v, hv, hflash⟩, -⟩ := State.hornKey_eq_some_iff.mp hn
  have hstays := State.reevaluate_flashing hv a u
  have hclear : (s.reevaluate a u).ann.silenced = false := by
    rw [(s.reevaluate_ann a u).2.2, hsilenced, ite_self]
  have hrequest := (State.hornRequest_iff _).mpr ⟨hclear, v, (congrArg Signal.state hstays).trans hv⟩
  obtain ⟨m, hm⟩ := Option.isSome_iff_exists.mp hrequest
  obtain ⟨-, -, hmax⟩ := State.hornKey_eq_some_iff.mp hm
  have hle := hmax v ((congrArg Signal.state hstays).trans hv)
  rw [hstays, hflash] at hle
  exact ⟨m, hm, hle⟩

/-! ### The re-evaluation of every slot -/

section
variable (a : Level) (us : List (Fin 8)) (s : State)

theorem State.reevaluateAll_movesHorn : s.ann.movesHorn (us.foldl (State.reevaluate a) s).ann :=
  List.foldlRecOn us (State.reevaluate a) (motive := fun x => s.ann.movesHorn x.ann) (Annunciator.movesHorn_refl _)
    fun x hx u _ => hx.trans (x.reevaluate_ann a u).1

/-- The silenced mark stands, or it has been cleared and a slot is FLASHING. -/
theorem State.reevaluateAll_silenced : (us.foldl (State.reevaluate a) s).ann.silenced = s.ann.silenced ∨
    (us.foldl (State.reevaluate a) s).ann.silenced = false ∧
      ∃ u, ((us.foldl (State.reevaluate a) s).slots.get u).signal.state = .flashing := by
  refine List.foldlRecOn us (State.reevaluate a) (motive := fun x => x.ann.silenced = s.ann.silenced ∨
    x.ann.silenced = false ∧ ∃ u, (x.slots.get u).signal.state = .flashing) (.inl rfl) fun x hx u _ => ?_
  obtain ⟨-, -, hsilenced⟩ := x.reevaluate_ann a u
  rw [hsilenced]
  split
  · next henters =>
    refine .inr ⟨rfl, u, ?_⟩
    rw [State.reevaluate_slots, if_pos ⟨rfl, henters.1⟩]
    exact Signal.newA_flashing henters.2
  · refine hx.imp_right fun ⟨hclear, v, hv⟩ => ⟨hclear, v, ?_⟩
    rw [State.reevaluate_flashing hv]
    exact hv

/-- Each entry to FLASHING clears the silenced mark (R95, R102). -/
theorem State.reevaluateAll_clears {u : Fin 8} (hu : u ∈ us) (hus : us.Nodup) : ∀ s : State, s.isDefined u = true →
    ((s.slots.get u).signal.newA a (s.slots.get u).grade.level).2 = true →
      (us.foldl (State.reevaluate a) s).ann.silenced = false := by
  have hstays (vs : List (Fin 8)) (x : State) (hx : x.ann.silenced = false) :
      (vs.foldl (State.reevaluate a) x).ann.silenced = false :=
    (x.reevaluateAll_silenced a vs).elim (fun h => h.trans hx) And.left
  induction us with
  | nil => cases hu
  | cons v us ih =>
    intro s hdefined henters
    obtain ⟨hv, hus⟩ := List.nodup_cons.mp hus
    by_cases h : u = v
    · subst h
      refine hstays us _ ?_
      rw [(s.reevaluate_ann a u).2.2, if_pos ⟨hdefined, henters⟩]
    · have hslot : (s.reevaluate a v).slots.get u = s.slots.get u := by
        rw [State.reevaluate_slots, if_neg fun hh => h hh.1]
      have hdefined' : (s.reevaluate a v).isDefined u = true := by
        obtain ⟨_, _, e⟩ := s.movesPanel_reevaluate a v
        rw [e]
        exact hdefined
      refine ih ((List.mem_cons.mp hu).resolve_left h) hus _ hdefined' ?_
      rw [hslot]
      exact henters

theorem State.reevaluateAll_keyRises : keyRises s.hornKey (us.foldl (State.reevaluate a) s).hornKey :=
  List.foldlRecOn us (State.reevaluate a) (motive := fun x => keyRises s.hornKey x.hornKey) (keyRises_refl _)
    fun x hx u _ => hx.trans (x.reevaluate_keyRises a u)

/-- The position follows the pattern in use over all the slots as over one, as the request and its level only rise. -/
theorem State.reevaluateAll_repatterned : s.repatterned (us.foldl (State.reevaluate a) s) := by
  have hboth := List.foldlRecOn us (State.reevaluate a)
    (motive := fun x => keyRises s.hornKey x.hornKey ∧ s.repatterned x)
    ⟨keyRises_refl _, (if_neg fun h => h.2 rfl).symm⟩ fun x hx u _ => ?_
  · exact hboth.2
  · obtain ⟨hrises, hpos⟩ := hx
    have hrises' := x.reevaluate_keyRises a u
    obtain ⟨-, hnext, -⟩ := x.reevaluate_ann a u
    refine ⟨hrises.trans hrises', ?_⟩
    rw [State.repatterned] at hnext hpos ⊢
    by_cases hother : (x.reevaluate a u).otherPattern x
    · have hnew : (x.reevaluate a u).otherPattern s := by
        refine ⟨hother.1, fun hsame => hother.2 ?_⟩
        exact keyRises.antisymm (hsame ▸ hrises) hrises'
      rw [hnext, if_pos hother, if_pos hnew]
    · have hsame : (x.reevaluate a u).hornKey = x.hornKey := by
        by_contra hne
        refine hother ⟨fun hnone => hne ?_, hne⟩
        rw [hnone]
        cases hk : x.hornKey with
        | none => rfl
        | some n =>
          obtain ⟨m, hm, -⟩ := hrises' n hk
          rw [hnone] at hm
          cases hm
      rw [hnext, if_neg hother, hpos]
      simp only [State.otherPattern, hsame]

end

/-! ### The whole apply (R145, R146) -/

/-- The slots and the Annunciator once the slots have been treated by their class (R50 to R54). -/
def State.reclassed (s : State) : State := s.adopted.applySlots s.store.applied s.store.pending

/-- They once a changed A has been re-evaluated as well (R95). -/
def State.reviewed (s : State) : State := s.reclassed.applyAnnunciateAt s.store.applied s.store.pending

section
variable (s : State)

theorem State.reclassed_ann : s.ann.movesHorn s.reclassed.ann ∧ s.repatterned s.reclassed ∧
    s.reclassed.ann.silenced = s.ann.silenced := s.adopted.applySlots_ann s.store.applied s.store.pending

theorem State.reclassed_get (u : Fin 8) :
    s.reclassed.slots.get u = (s.slots.get u).apply (slotClass s.store.applied s.store.pending u) := by
  simp [State.reclassed, State.applySlots, State.adopted, State.applyChannels]

theorem State.reclassed_isDefined (u : Fin 8) :
    s.reclassed.isDefined u = (s.store.pending.transformers.get u).defined := by
  simp [State.isDefined, State.reclassed, State.applySlots, State.adopted, State.applyChannels]

theorem State.reviewed_movesHorn : s.ann.movesHorn s.reviewed.ann := by
  refine s.reclassed_ann.1.trans ?_
  rw [State.reviewed, State.applyAnnunciateAt]
  split
  · exact Annunciator.movesHorn_refl _
  · exact State.reevaluateAll_movesHorn ..

theorem State.reviewed_of_same (h : s.store.applied.general.annunciateAt = s.store.pending.general.annunciateAt) :
    s.reviewed = s.reclassed := if_pos h

theorem State.reviewed_of_changed (h : s.store.applied.general.annunciateAt ≠ s.store.pending.general.annunciateAt) :
    s.reviewed =
      (List.finRange 8).foldl (State.reevaluate s.store.pending.general.annunciateAt) s.reclassed := if_neg h

/-- A changed ANNUNCIATOR item sets the positions to 0; with the same item they stand as reviewed (R112). -/
theorem State.applySettings_ann : ∃ tone,
    (s.store.applied.annunciator = s.store.pending.annunciator →
      s.applySettings.ann = { s.reviewed.ann with tone := tone }) ∧
    (s.store.applied.annunciator ≠ s.store.pending.annunciator →
      s.applySettings.ann = { s.reviewed.ann with
        hornPos := 0, fastPos := 0, slowPos := 0, hornReset := true, lampReset := true, tone := tone }) := by
  obtain ⟨tone, e⟩ := State.reformTone_eq (s.reviewed.applyAnnunciator s.store.applied s.store.pending)
  have hall : s.applySettings.ann =
      { (s.reviewed.applyAnnunciator s.store.applied s.store.pending).ann with tone := tone } := congrArg State.ann e
  refine ⟨tone, fun hsame => ?_, fun hchanged => ?_⟩
  · rw [hall, State.applyAnnunciator, if_pos hsame]
  · rw [hall, State.applyAnnunciator, if_neg hchanged]
    rfl

theorem State.applySettings_silenced : s.applySettings.ann.silenced = s.reviewed.ann.silenced := by
  obtain ⟨tone, hsame, hchanged⟩ := s.applySettings_ann
  by_cases h : s.store.applied.annunciator = s.store.pending.annunciator
  · rw [hsame h]
  · rw [hchanged h]

theorem State.applySettings_slots : s.applySettings.slots = s.reviewed.slots := by
  have hpanel : (s.reviewed.applyAnnunciator s.store.applied s.store.pending).slots = s.reviewed.slots := by
    unfold State.applyAnnunciator
    split <;> rfl
  rw [← hpanel]
  exact State.reformTone_slots _

theorem State.applySettings_hornKey : s.applySettings.hornKey = s.reviewed.hornKey :=
  State.hornKey_congr s.applySettings_silenced fun u => by rw [State.applySettings_slots]

theorem State.applySettings_toneSound : s.applySettings.toneSound := State.reformTone_toneSound _

theorem State.applySettings_channel (i : Fin 16) : s.applySettings.cond.channels.get i =
    (s.cond.channels.get i).apply (s.store.applied.channels.get i) (s.store.pending.channels.get i) := by
  have hcond : s.applySettings.cond = s.adopted.cond := by
    obtain ⟨_, _, e⟩ := s.movesPanel_repanelled
    rw [State.applySettings_eq, e]
    rfl
  rw [hcond]
  exact Table.get_ofFn _ i

end

/-! ### What the apply makes of a slot (R48 to R53) -/

section
variable {old new : Settings} {u : Fin 8} (x : Slot)

theorem Slot.apply_of_turned (h : (old.transformers.get u).defined ≠ (new.transformers.get u).defined) :
    x.apply (slotClass old new u) = .zero := by
  unfold slotClass
  cases ho : (old.transformers.get u).defined <;> cases hn : (new.transformers.get u).defined <;>
    simp_all [Slot.apply]

theorem Slot.apply_of_undefined (hold : (old.transformers.get u).defined = false)
    (hnew : (new.transformers.get u).defined = false) : x.apply (slotClass old new u) = x := by
  rw [slotClass, hold, hnew]
  rfl

theorem Slot.apply_of_defined (hold : (old.transformers.get u).defined = true)
    (hnew : (new.transformers.get u).defined = true) : x.apply (slotClass old new u) =
      if old.transformers.get u = new.transformers.get u ∧ old.curves.get u = new.curves.get u ∧
        old.monitors.get u = new.monitors.get u then x else { x with grade := x.grade.restart } := by
  rw [slotClass, hold, hnew]
  dsimp only
  split <;> rfl

end

end Sys2Proof.Machine

namespace Sys2Proof.Machine

/-- The re-evaluation under a changed A reaches the annunciation record alone. -/
theorem State.applySettings_record (s : State) (u : Fin 8) :
    (s.applySettings.slots.get u).cur = ((s.slots.get u).apply (slotClass s.store.applied s.store.pending u)).cur ∧
    (s.applySettings.slots.get u).thermal = ((s.slots.get u).apply (slotClass s.store.applied s.store.pending u)).thermal ∧
    (s.applySettings.slots.get u).grade = ((s.slots.get u).apply (slotClass s.store.applied s.store.pending u)).grade := by
  rw [State.applySettings_slot]
  dsimp only
  split <;> exact ⟨rfl, rfl, rfl⟩

theorem ChannelRecord.apply_of_enabled {old new : ChannelItem} (hold : old.enabled = false) (hnew : new.enabled = true)
    (r : ChannelRecord) : r.apply old new = .blank .ok := by rw [ChannelRecord.apply, hold, hnew]

theorem ChannelRecord.apply_of_disabled {old new : ChannelItem} (hold : old.enabled = true) (hnew : new.enabled = false)
    (r : ChannelRecord) : r.apply old new = .disabled := by rw [ChannelRecord.apply, hold, hnew]

theorem ChannelRecord.apply_of_same {old new : ChannelItem} (h : old.enabled = new.enabled) (r : ChannelRecord) :
    r.apply old new = r := by
  rw [ChannelRecord.apply, h]
  cases new.enabled <;> rfl

theorem exec_settings_of_awaits {s : State} (h : s.awaits .settings) (hrdy : Bool) :
    exec (.epochCompletion [.settings] false hrdy) s = .next (s.without .settings).takeEpoch :=
  exec_epochCompletion_of_awaits h rfl hrdy

theorem State.takeEpoch_of_sealed {s : State} (h : s.store.isSealed = true) : s.takeEpoch = s.applySettings := if_pos h

/-- Settles O23: without a sealed set nothing is applied; with one, each block is treated by how its items changed. -/
theorem sealedSetIsApplied : Obligations.SealedSetIsApplied := by
  unfold Obligations.SealedSetIsApplied
  intro s hrdy hawaits
  refine ⟨_, exec_settings_of_awaits hawaits hrdy, fun hopen => ?_, fun hsealed => ?_⟩
  · rw [State.takeEpoch_of_unsealed (s := s.without .settings) hopen]
    exact ⟨rfl, by simp [State.without]⟩
  · rw [State.takeEpoch_of_sealed (s := s.without .settings) hsealed]
    generalize hw : s.without .settings = w
    obtain ⟨hcond, hslots, hann, hstore, hnotices⟩ : w.cond = s.cond ∧ w.slots = s.slots ∧ w.ann = s.ann ∧
        w.store = s.store ∧ w.notices = s.notices := by rw [← hw]; exact ⟨rfl, rfl, rfl, rfl, rfl⟩
    have hkey : w.hornKey = s.hornKey := by rw [← hw]; rfl
    obtain ⟨channels, slots, ann, hframe⟩ := w.applySettings_frame
    obtain ⟨tone, hsame, hchanged⟩ := w.applySettings_ann
    have hhorn := w.reviewed_movesHorn
    rw [Annunciator.movesHorn, hann] at hhorn
    rw [hstore] at hsame hchanged
    dsimp only
    refine ⟨?_, ?_, ?_, ?_, ?_, w.applySettings_toneSound, fun hA => ?_, fun hitem => ?_, fun hitem => ?_, fun i => ?_,
      fun u => ?_⟩
    · rw [hframe, hstore]
    · rw [hframe, hnotices, hcond]
    · rw [hframe, ← hw]
      rfl
    · rw [hframe, hcond]
    · by_cases hitem : s.store.applied.annunciator = s.store.pending.annunciator
      · rw [hsame hitem, hhorn]
      · rw [hchanged hitem, hhorn]
    · rw [State.applySettings_silenced, State.reviewed_of_same w (hstore ▸ hA), w.reclassed_ann.2.2, hann]
    · rw [hchanged hitem]
      exact ⟨rfl, rfl, rfl⟩
    · refine ⟨by rw [hsame hitem, hhorn], by rw [hsame hitem, hhorn], fun hA => ?_⟩
      have hreclassed := State.reviewed_of_same w (hstore ▸ hA)
      obtain ⟨-, hpos, -⟩ := w.reclassed_ann
      simp only [State.repatterned, State.otherPattern, ← hreclassed, hkey, hann] at hpos
      rw [State.positionFollows, State.applySettings_hornKey, hsame hitem]
      exact hpos
    · have hchannel := w.applySettings_channel i
      rw [hstore, hcond] at hchannel
      rw [hchannel]
      exact ⟨fun hold hnew => ChannelRecord.apply_of_enabled hold hnew _,
        fun hold hnew => ChannelRecord.apply_of_disabled hold hnew _, fun h => ChannelRecord.apply_of_same h _⟩
    · have hslot := w.applySettings_slot u
      obtain ⟨hcur, hthermal, hgrade⟩ := w.applySettings_record u
      rw [hstore, hslots] at hslot hcur hthermal hgrade
      rw [hcur, hthermal, hgrade]
      refine ⟨fun hturned => ?_, fun hturned hA => ?_, fun hold hnew hdiffers => ?_, fun hold hnew halike => ?_,
        fun hold hnew => ?_, fun hold hnew hA => ?_⟩
      · rw [Slot.apply_of_turned _ hturned]
        exact ⟨rfl, rfl, rfl⟩
      · have hquiet : (Slot.zero.newA s.store.pending.general.annunciateAt).signal = Slot.zero.signal := by
          have hbelow : ¬ s.store.pending.general.annunciateAt ≤ 0 := not_le.mpr (lt_of_lt_of_le (by decide) hA)
          exact congrArg Prod.fst ((Signal.newA_of_clear (.inl rfl) _ _).trans (if_neg hbelow))
        rw [hslot, Slot.apply_of_turned _ hturned]
        dsimp only
        split
        · exact hquiet
        · rfl
      · rw [Slot.apply_of_defined _ hold hnew, if_neg hdiffers]
        exact ⟨rfl, rfl, rfl⟩
      · rw [Slot.apply_of_defined _ hold hnew, if_pos halike]
        exact ⟨rfl, rfl, rfl⟩
      · rw [hslot, Slot.apply_of_undefined _ hold hnew]
        exact if_neg fun h => absurd h.2 (Bool.eq_false_iff.mp hnew)
      · rw [hslot, Slot.apply_of_defined _ hold hnew]
        dsimp only
        rw [if_neg fun h => h.1 hA]
        split <;> rfl

/-- A slot that stays defined keeps its annunciation record and its level (R51, R52). -/
theorem Slot.apply_signal {old new : Settings} {u : Fin 8} (x : Slot)
    (h : (old.transformers.get u).defined = (new.transformers.get u).defined) :
    (x.apply (slotClass old new u)).signal = x.signal ∧ (x.apply (slotClass old new u)).grade.level = x.grade.level := by
  cases hold : (old.transformers.get u).defined with
  | false =>
    rw [Slot.apply_of_undefined x hold (h ▸ hold)]
    exact ⟨rfl, rfl⟩
  | true =>
    rw [Slot.apply_of_defined x hold (h ▸ hold)]
    split <;> exact ⟨rfl, rfl⟩

/-- Settles O24: every slot that stays defined is re-evaluated, and the position follows the pattern in use. -/
theorem newAnnunciateAtLevelIsReevaluated : Obligations.NewAnnunciateAtLevelIsReevaluated := by
  unfold Obligations.NewAnnunciateAtLevelIsReevaluated
  intro s hrdy hawaits hsealed hA
  refine ⟨_, exec_settings_of_awaits hawaits hrdy, ?_⟩
  rw [State.takeEpoch_of_sealed (s := s.without .settings) hsealed]
  generalize hw : s.without .settings = w
  obtain ⟨hslots, hann, hstore⟩ : w.slots = s.slots ∧ w.ann = s.ann ∧ w.store = s.store := by
    rw [← hw]; exact ⟨rfl, rfl, rfl⟩
  have hkey : w.hornKey = s.hornKey := by rw [← hw]; rfl
  obtain ⟨tone, hsame, hchanged⟩ := w.applySettings_ann
  have hreviewed := State.reviewed_of_changed w (hstore ▸ hA)
  rw [hstore] at hsame hchanged hreviewed
  obtain ⟨-, hfirst, hmark⟩ := w.reclassed_ann
  have hthen := State.reevaluateAll_repatterned s.store.pending.general.annunciateAt (List.finRange 8) w.reclassed
  rw [← hreviewed] at hthen
  simp only [State.repatterned, State.otherPattern, hkey, hann] at hfirst
  rw [hann] at hmark
  have hzero : w.reviewed.hornKey ≠ none → w.reviewed.hornKey ≠ s.hornKey → w.reviewed.ann.hornPos = 0 := by
    intro hsome hother
    rw [hthen]
    split
    · rfl
    · next hstays =>
      have hkept : w.reviewed.hornKey = w.reclassed.hornKey := by
        by_contra hne
        exact hstays ⟨hsome, hne⟩
      rw [hfirst, if_pos ⟨hkept ▸ hsome, hkept ▸ hother⟩]
  dsimp only
  rw [State.applySettings_silenced, State.applySettings_hornKey]
  refine ⟨?_, fun hsome hother => ?_, fun hitem => ⟨?_, fun hdefined => ?_⟩, fun u hold hnew => ?_⟩
  · have hmarked := State.reevaluateAll_silenced s.store.pending.general.annunciateAt (List.finRange 8) w.reclassed
    rw [← hreviewed, hmark] at hmarked
    rw [State.applySettings_slots]
    exact hmarked
  · by_cases hitem : s.store.applied.annunciator = s.store.pending.annunciator
    · rw [hsame hitem]
      exact hzero hsome hother
    · rw [hchanged hitem]
  · rw [hsame hitem]
    dsimp only
    rw [hthen, hfirst]
    split
    · exact .inl rfl
    · split
      · exact .inl rfl
      · exact .inr rfl
  · have hkept : w.reclassed.hornKey = s.hornKey := by
      refine State.hornKey_congr hmark fun u => ?_
      rw [State.reclassed_get, hstore, hslots]
      exact (Slot.apply_signal _ (hdefined u)).1
    rw [State.positionFollows, State.applySettings_hornKey, hsame hitem]
    dsimp only
    simp only [hkept, ne_eq, not_true_eq_false, and_false, if_false] at hfirst
    rw [hthen, hfirst]
    simp only [State.otherPattern, hkept]
  · have hclass := Slot.apply_signal (s.slots.get u) (hold.trans hnew.symm)
    have hslot := w.applySettings_slot u
    rw [hstore, hslots] at hslot
    dsimp only at hslot
    rw [if_pos ⟨hA, hnew⟩] at hslot
    have hsignal : (w.applySettings.slots.get u).signal = ((s.slots.get u).signal.newA
        s.store.pending.general.annunciateAt (s.slots.get u).grade.level).1 := by
      rw [hslot, Slot.newA, hclass.1, hclass.2]
    have hclears := State.reevaluateAll_clears s.store.pending.general.annunciateAt (List.finRange 8)
      (List.mem_finRange u) (List.nodup_finRange 8) w.reclassed
      (by rw [State.reclassed_isDefined, hstore, hnew])
    rw [← hreviewed, State.reclassed_get, hstore, hslots, hclass.1, hclass.2] at hclears
    rw [hsignal]
    refine ⟨fun hclear hle => ?_, fun hsteady hlt => ?_, fun hclear hlt => ?_, fun hsteady hle => ?_, fun hflash => ?_⟩
    · rw [Signal.newA_of_clear hclear, if_pos hle] at hclears ⊢
      exact ⟨rfl, hclears rfl⟩
    · rw [Signal.newA_of_steady hsteady, if_pos hlt]
    · rw [Signal.newA_of_clear hclear, if_neg (not_le.mpr hlt)]
    · rw [Signal.newA_of_steady hsteady, if_neg (not_lt.mpr hle)]
    · rw [Signal.newA_of_flashing hflash]

end Sys2Proof.Machine

namespace Sys2Proof.Machine

/-! ## A whole completion leaves no part waiting (R18, R25) -/

/-- After the parts of `done`, those of `rest` stand in an order in which each may be taken whole. -/
def inOrder : List CompletionPart → List CompletionPart → Bool
  | _, [] => true
  | done, p :: rest => decide (waitsAs p = p) && (mustFollow p).all (fun q => done.contains q) && inOrder (p :: done) rest

theorem inOrder_cycleParts : inOrder [] cycleParts = true := by decide

theorem inOrder_epochParts : inOrder [] (cycleParts ++ epochParts) = true := by decide

section
variable (hrdy : Bool)

theorem State.takePart_parts {x : State} {p q : CompletionPart} (h : q ∈ (x.takePart hrdy p).flight.parts) :
    q ∈ x.flight.parts := by
  unfold State.takePart at h
  split at h
  · rw [State.runPart_waiting] at h
    exact List.mem_of_mem_filter h
  · exact h

theorem State.takeParts_parts (ps : List CompletionPart) : ∀ {x : State} {q : CompletionPart},
    q ∈ (x.takeParts hrdy ps).flight.parts → q ∈ x.flight.parts := by
  induction ps with
  | nil => exact fun h => h
  | cons p ps ih => exact fun h => State.takePart_parts hrdy (ih h)

/-- A part that may be taken waits no more once it has been taken. -/
theorem State.takePart_removes {x : State} {p : CompletionPart} (hwhole : waitsAs p = p)
    (hfree : ∀ q ∈ mustFollow p, q ∉ x.flight.parts) : p ∉ (x.takePart hrdy p).flight.parts := by
  by_cases hwaits : p ∈ x.flight.parts
  · rw [State.takePart_of_waiting (hwhole.symm ▸ hwaits) hfree, State.runPart_waiting]
    simp
  · exact fun h => hwaits (State.takePart_parts hrdy h)

theorem State.takeParts_inOrder (rest : List CompletionPart) : ∀ {done : List CompletionPart} {x : State},
    inOrder done rest = true → (∀ q ∈ done, q ∉ x.flight.parts) →
      ∀ q, q ∈ done ∨ q ∈ rest → q ∉ (x.takeParts hrdy rest).flight.parts := by
  induction rest with
  | nil => exact fun _ hdone q hq => hdone q (hq.resolve_right List.not_mem_nil)
  | cons p rest ih =>
    intro done x horder hdone q hq
    simp only [inOrder, Bool.and_eq_true, decide_eq_true_eq, List.all_eq_true, List.contains_eq_mem] at horder
    obtain ⟨⟨hwhole, hfollow⟩, hrest⟩ := horder
    have hgone : ∀ q ∈ p :: done, q ∉ (x.takePart hrdy p).flight.parts := by
      intro q hq
      rcases List.mem_cons.mp hq with rfl | hq
      · exact State.takePart_removes hrdy hwhole fun r hr => hdone r (hfollow r hr)
      · exact fun h => hdone q hq (State.takePart_parts hrdy h)
    refine ih hrest hgone q ?_
    rcases hq with hq | hq
    · exact .inl (List.mem_cons_of_mem _ hq)
    · exact (List.mem_cons.mp hq).imp (fun h : q = p => h ▸ List.mem_cons_self ..) id

/-- Taken in an order in which each may be taken, the parts that wait are all taken. -/
theorem State.takeParts_all {ps : List CompletionPart} {x : State} (horder : inOrder [] ps = true)
    (hparts : ∀ q ∈ x.flight.parts, q ∈ ps) : (x.takeParts hrdy ps).flight.parts = [] := by
  refine List.eq_nil_iff_forall_not_mem.mpr fun q hq => ?_
  exact State.takeParts_inOrder hrdy ps horder (by simp) q (.inr (hparts q (State.takeParts_parts hrdy ps hq))) hq

end

/-! ## What the parts of a completion reach -/

section
variable (hrdy : Bool) (s : State)

theorem State.takeTrigger_current (tr : Trigger) : (s.takeTrigger hrdy tr).capture.current = s.capture.current := by
  rcases s.takeTrigger_cases hrdy tr with ⟨-, -, e⟩ | ⟨-, -, e⟩ | ⟨-, e⟩ | ⟨-, -, e⟩ | ⟨-, -, e⟩ <;> rw [e]
  · rfl
  · rw [State.answer_capture]
    rfl
  all_goals rfl

@[simp] theorem State.takeTriggers_current (trs : List Trigger) : ∀ s : State,
    (s.takeTriggers hrdy trs).capture.current = s.capture.current := by
  induction trs with
  | nil => exact fun _ => rfl
  | cons tr trs ih => exact fun s => (ih (s.takeTrigger hrdy tr)).trans (s.takeTrigger_current hrdy tr)

/-- The open frame is reached by its completion and by the next cycle start alone (R115). -/
theorem State.runPart_current {p : CompletionPart} (hframe : p ≠ .frame) (hstart : p ≠ .start) :
    (s.runPart hrdy p).capture.current = s.capture.current := by
  cases p with
  | frame => exact absurd rfl hframe
  | start => exact absurd rfl hstart
  | nextStep => rcases s.takeNextStep_cases hrdy with e | ⟨_, _, _, e⟩ <;> simp [State.runPart, e]
  | nextLevel => rcases s.takeNextLevel_cases hrdy with e | ⟨_, _, _, e⟩ <;> simp [State.runPart, e]
  | _ => simp [State.runPart]

/-- The Conditioner's records are reached by the entries, by the next cycle start and by an apply. -/
theorem State.runPart_cond {p : CompletionPart} (hentries : waitsAs p ≠ .entries) (hstart : p ≠ .start)
    (hsettings : p ≠ .settings) : (s.runPart hrdy p).cond = s.cond := by
  cases p with
  | entries => exact absurd rfl hentries
  | nextEntry => exact absurd rfl hentries
  | start => exact absurd rfl hstart
  | settings => exact absurd rfl hsettings
  | _ => simp [State.runPart]

theorem State.takeNextEntry_cond : s.takeNextEntry.cond = { s.cond with channels := s.takeNextEntry.cond.channels } := by
  unfold State.takeNextEntry
  split
  · exact State.takeEntries_cond _ [_] (s.setFlight _)
  all_goals rfl

theorem State.startNext_of_some {g : CycleStart} (h : s.flight.given = some g) :
    s.startNext = (s.setFlight { s.flight with given := none }).startCycle (s.scanner.cycleNumber + 1) g := by
  rw [State.startNext, h]

theorem State.startNext_of_none (h : s.flight.given = none) : s.startNext = s := by rw [State.startNext, h]

theorem State.runPart_epochNumber {p : CompletionPart} : (s.runPart hrdy p).cond.epochNumber = s.cond.epochNumber := by
  cases p with
  | settings =>
    obtain ⟨_, _, _, _, _, e⟩ := s.takeEpoch_frame
    rw [State.runPart, e]
  | entries =>
    rw [State.runPart, State.takeRecord]
    split
    · rfl
    · next c _ =>
      have hverdict (x : State) : (x.takeVerdict c).cond.epochNumber = x.cond.epochNumber := by
        unfold State.takeVerdict
        dsimp only
        repeat' split
        all_goals rfl
      rw [State.setCond_cond]
      dsimp only
      rw [hverdict, State.takeEntries_cond]
      rfl
  | nextEntry => rw [State.runPart, State.takeNextEntry_cond]
  | start =>
    cases h : s.flight.given with
    | none => rw [State.runPart, State.startNext_of_none s h]
    | some g =>
      rw [State.runPart, State.startNext_of_some s h, State.startCycle_eq]
      rfl
  | _ => simp [State.runPart]

end

/-! ## A completion under way -/

/-- Since `b`, where a completion began, parts of it have been taken. -/
structure State.underWay (b x : State) : Prop where
  parts : ∀ p ∈ x.flight.parts, p ∈ b.flight.parts
  time : x.time = b.time
  pending : x.pending = b.pending
  store : x.store = b.store
  epoch : x.cond.epochNumber = b.cond.epochNumber
  tells : b.tells x

theorem State.underWay_refl (b : State) : b.underWay b :=
  ⟨fun _ h => h, rfl, rfl, rfl, rfl, State.tells_of_eq rfl⟩

/-- Without a sealed set a completion changes nothing in the Store. -/
theorem State.runPart_store_of_unsealed {s : State} {p : CompletionPart} (h : p ≠ .settings ∨ s.store.isSealed = false)
    (hrdy : Bool) : (s.runPart hrdy p).store = s.store :=
  h.elim (State.runPart_store_of_ne hrdy s) fun hseal => State.runPart_store hrdy hseal p

theorem State.underWay.runPart {b x : State} (h : b.underWay x) {p : CompletionPart}
    (hset : p ≠ .settings ∨ b.store.isSealed = false) (hrdy : Bool) : b.underWay ((x.without p).runPart hrdy p) := by
  obtain ⟨hparts, htime, hpending, hstore, hepoch, htells⟩ := h
  refine ⟨fun q hq => ?_, ?_, ?_, ?_, ?_, htells.trans (State.tells_runPart (x.without p) hrdy p)⟩
  · rw [State.runPart_waiting] at hq
    exact hparts q (List.mem_of_mem_filter hq)
  · rw [State.runPart_time]
    exact htime
  · rw [State.runPart_pending]
    exact hpending
  · rw [State.runPart_store_of_unsealed (s := x.without p) (by rwa [State.without_store, hstore])]
    exact hstore
  · rw [State.runPart_epochNumber]
    exact hepoch

/-! ### The count and the start of the next cycle (R8, R11, R12, R18) -/

/-- The start that the scanner is to take: what the tracker of `x` gives if its count is one of the parts, and else what
was given before. -/
def State.startFor (b x : State) : Option CycleStart :=
  if .count ∈ b.flight.parts then some (x.tracker.cycleStart x.time.fnom) else b.flight.given

/-- Since `b` the count and the start, where they waited, have each been taken at most once, the start after the count. -/
structure State.cycled (b : State) (check : Bool) (x : State) : Prop where
  still : .count ∈ x.flight.parts ∨ .count ∉ b.flight.parts → x.tracker = b.tracker
  moved : .count ∈ b.flight.parts → .count ∉ x.flight.parts → b.countedBy x
  given : .start ∈ x.flight.parts → .count ∉ x.flight.parts → x.flight.given = b.startFor x
  waits : .start ∈ x.flight.parts ∨ .start ∉ b.flight.parts → x.scanner = b.scanner
  last : .start ∈ b.flight.parts → .start ∉ x.flight.parts →
    .entries ∉ x.flight.parts ∧ .frame ∉ x.flight.parts ∧ .count ∉ x.flight.parts
  opened : .start ∈ b.flight.parts → .start ∉ x.flight.parts → ∀ g, b.startFor x = some g →
    b.opensCycle x g.ps g.degraded check

theorem State.cycled_refl (b : State) (check : Bool) : b.cycled check b where
  still _ := rfl
  moved h h' := absurd h h'
  given hstart hcount := by rw [State.startFor, if_neg hcount]
  waits _ := rfl
  last h h' := absurd h h'
  opened h h' := absurd h h'

theorem Tracker.countCompletion_of_other {t : Tracker} (h : t.state ≠ .holdover) : t.countCompletion = (t, []) := by
  cases hstate : t.state with
  | holdover => exact absurd hstate h
  | searching | locked | free => simp only [Tracker.countCompletion, hstate]

theorem Tracker.countCompletion_of_below {t : Tracker} (h : t.state = .holdover) (hhold : t.hold < 49) :
    t.countCompletion = ({ t with hold := t.hold + 1 }, []) := by
  simp [Tracker.countCompletion, h, show t.hold + 1 < 50 by omega]

theorem Tracker.countCompletion_of_last {t : Tracker} (h : t.state = .holdover) (hhold : t.hold = 49) :
    t.countCompletion = ({ t with hold := 50, state := .free }, [.freeRunning]) := by
  simp [Tracker.countCompletion, h, hhold]

theorem State.countCompletion_tracker (s : State) : s.countCompletion.tracker = s.tracker.countCompletion.1 := by
  rw [State.countCompletion_eq, State.setFlight_tracker, State.moveTracker, State.notifyAll_tracker]
  rfl

/-- R8, R10: the tracker's count, with its notice. -/
theorem State.countedBy_countCompletion {b s : State} (htracker : s.tracker = b.tracker) (htells : b.tells s)
    (hepoch : s.cond.epochNumber = b.cond.epochNumber) : b.countedBy s.countCompletion := by
  have hmoved : s.countCompletion.tracker = b.tracker.countCompletion.1 := htracker ▸ s.countCompletion_tracker
  refine ⟨fun hother => ?_, fun hstate hhold => ?_, fun hstate hhold => ⟨?_, ?_⟩⟩
  · rw [hmoved, Tracker.countCompletion_of_other hother]
  · rw [hmoved, Tracker.countCompletion_of_below hstate hhold]
  · rw [hmoved, Tracker.countCompletion_of_last hstate hhold]
  · have hnotices : s.countCompletion.notices = (s.notify .freeRunning).notices := by
      rw [State.countCompletion_eq, State.setFlight_notices, State.moveTracker, htracker,
        Tracker.countCompletion_of_last hstate hhold]
      rfl
    have htold := State.told_notify (s := b) (u := s) .freeRunning htells.front hepoch
    unfold State.told at htold ⊢
    rw [hnotices]
    exact htold

/-- R11: what the tracker gives, on its state. -/
theorem State.givesPeriod_cycleStart (s : State) : s.givesPeriod (s.tracker.cycleStart s.time.fnom).ps ∧
    (s.tracker.cycleStart s.time.fnom).degraded = decide (s.tracker.state ≠ .locked) := by
  refine ⟨⟨fun hstate => ?_, fun hstate p hp => ?_⟩, ?_⟩
  · rcases hstate with hstate | hstate <;> simp only [Tracker.cycleStart, Tracker.samplingPeriod, hstate] <;>
      cases s.time.fnom <;> rfl
  · rcases hstate with hstate | hstate <;> simp [Tracker.cycleStart, Tracker.samplingPeriod, hstate, hp]
  · simp only [Tracker.cycleStart, Tracker.degradedNow]
    cases s.tracker.state <;> rfl

theorem State.startFor_congr {b x y : State} (htracker : y.tracker = x.tracker) (htime : y.time = x.time) :
    b.startFor y = b.startFor x := by rw [State.startFor, State.startFor, htracker, htime]

theorem State.countedBy.of_tells {b x y : State} (h : b.countedBy x) (htracker : y.tracker = x.tracker)
    (htells : x.tells y) : b.countedBy y := by
  obtain ⟨hother, hbelow, hlast⟩ := h
  rw [State.countedBy, htracker]
  exact ⟨hother, hbelow, fun hstate hhold => (hlast hstate hhold).imp_right fun h => h.tells htells⟩

/-- R12, R18, R36, R115: the scanner's start on `g` opens the next cycle. -/
theorem State.opensCycle_startNext {b s : State} {g : CycleStart} (hgiven : s.flight.given = some g)
    (hscanner : s.scanner = b.scanner) (hstore : s.store = b.store) {check : Bool}
    (hcheck : decide (s.cond.selfCheck = .scheduled) = check) : b.opensCycle s.startNext g.ps g.degraded check := by
  rw [State.startNext_of_some s hgiven, State.startCycle_eq, ← hcheck]
  rw [State.opensCycle, ← hstore, ← hscanner]
  exact ⟨rfl, rfl⟩

/-- Every part keeps the count and the start to their order. -/
theorem State.cycled.runPart {b x : State} {check : Bool} (h : b.cycled check x) (hway : b.underWay x) {p : CompletionPart}
    (hwaits : waitsAs p ∈ x.flight.parts) (hfree : ∀ q ∈ mustFollow p, q ∉ x.flight.parts)
    (hcheck : p = .start → decide (x.cond.selfCheck = .scheduled) = check) (hrdy : Bool) :
    b.cycled check ((x.without p).runPart hrdy p) := by
  have hstays (q : CompletionPart) (hq : q ≠ p) :
      q ∈ ((x.without p).runPart hrdy p).flight.parts ↔ q ∈ x.flight.parts :=
    State.mem_runPart.trans (and_iff_left hq)
  have hgone : p ∉ ((x.without p).runPart hrdy p).flight.parts := fun h => (State.mem_runPart.mp h).2 rfl
  have hleaves (q : CompletionPart) (hq : q ∉ x.flight.parts) : q ∉ ((x.without p).runPart hrdy p).flight.parts := by
    exact fun h => hq (State.mem_runPart.mp h).1
  have htells := State.tells_runPart (x.without p) hrdy p
  obtain ⟨still, moved, given, waits, last, opened⟩ := h
  by_cases hcount : p = .count
  · subst hcount
    have hb : .count ∈ b.flight.parts := hway.parts _ hwaits
    have hscanner := State.runPart_scanner hrdy .count (x.without .count) (by decide)
    refine ⟨fun h => absurd h (not_or.mpr ⟨hgone, not_not.mpr hb⟩), fun _ _ => ?_, fun _ _ => ?_, fun h => ?_,
      fun hstart h => absurd hwaits (last hstart ((hstays _ (by decide)).not.mp h)).2.2,
      fun hstart h => absurd hwaits (last hstart ((hstays _ (by decide)).not.mp h)).2.2⟩
    · exact State.countedBy_countCompletion (s := x.without .count) (still (.inl hwaits)) hway.tells hway.epoch
    · show (x.without .count).countCompletion.flight.given = b.startFor (x.without .count).countCompletion
      rw [State.startFor, if_pos hb, State.countCompletion_tracker, State.countCompletion_time, State.countCompletion_eq]
      rfl
    · exact hscanner.trans (waits (h.imp_left (hstays _ (by decide)).mp))
  · by_cases hstart : p = .start
    · subst hstart
      have hb : .start ∈ b.flight.parts := hway.parts _ hwaits
      have htracker := State.runPart_tracker hrdy .start (x.without .start) (by decide)
      have hentries : .entries ∉ x.flight.parts := hfree _ (by decide)
      have hframe : .frame ∉ x.flight.parts := hfree _ (by decide)
      have hcounted : .count ∉ x.flight.parts := hfree _ (by decide)
      refine ⟨fun h => htracker.trans (still (h.imp_left (hstays _ (by decide)).mp)),
        fun hin _ => (moved hin hcounted).of_tells htracker htells, fun h => absurd h hgone,
        fun h => absurd h (not_or.mpr ⟨hgone, not_not.mpr hb⟩),
        fun _ _ => ⟨hleaves _ hentries, hleaves _ hframe, hleaves _ hcounted⟩, fun _ _ g hg => ?_⟩
      have hsame : b.startFor ((x.without .start).runPart hrdy .start) = b.startFor x :=
        State.startFor_congr htracker (State.runPart_time ..)
      exact State.opensCycle_startNext (s := x.without .start) ((given hwaits hcounted).trans (hsame.symm.trans hg))
        (waits (.inl hwaits)) hway.store (hcheck rfl)
    · have htracker := State.runPart_tracker hrdy p (x.without p) hcount
      have hscanner := State.runPart_scanner hrdy p (x.without p) hstart
      have hgiven := State.runPart_given hrdy p (x.without p) hcount hstart
      have hsame : b.startFor ((x.without p).runPart hrdy p) = b.startFor x :=
        State.startFor_congr htracker (State.runPart_time ..)
      refine ⟨fun h => htracker.trans (still (h.imp_left (hstays _ (Ne.symm hcount)).mp)),
        fun hin h => (moved hin ((hstays _ (Ne.symm hcount)).not.mp h)).of_tells htracker htells,
        fun h h' => (hgiven.trans (given ((hstays _ (Ne.symm hstart)).mp h) ((hstays _ (Ne.symm hcount)).not.mp h'))).trans
          hsame.symm,
        fun h => hscanner.trans (waits (h.imp_left (hstays _ (Ne.symm hstart)).mp)), fun hin h => ?_, fun hin h g hg => ?_⟩
      · obtain ⟨hentries, hframe, hcounted⟩ := last hin ((hstays _ (Ne.symm hstart)).not.mp h)
        exact ⟨hleaves _ hentries, hleaves _ hframe, hleaves _ hcounted⟩
      · have hstarted := (hstays _ (Ne.symm hstart)).not.mp h
        have hframe : p ≠ .frame := by
          rintro rfl
          exact (last hin hstarted).2.1 hwaits
        obtain ⟨hcycle, hcurrent⟩ := opened hin hstarted g (hsame.symm.trans hg)
        exact ⟨hscanner.trans hcycle, (State.runPart_current hrdy (x.without p) hframe hstart).trans hcurrent⟩

end Sys2Proof.Machine

namespace Sys2Proof.Machine

/-! ## The link while no hold is pending (R126) -/

theorem State.takeFrame_of_no_hold {s : State} (h : s.capture.holdPending = false) (hrdy : Bool) : s.takeFrame hrdy =
    (s.setCapture s.capture.takeFrame).notifyAll (frozenNotice s.capture s.capture.takeFrame) := by
  rw [State.takeFrame, Capture.takeFrame_holdPending, h]
  rfl

/-- Since `b`, in which no hold was pending, nothing has reached the link. -/
structure State.linkStands (b x : State) : Prop where
  hold : x.capture.holdPending = false
  link : x.link = b.link

theorem State.linkStands.runPart {b x : State} (h : b.linkStands x) (hrdy : Bool) (p : CompletionPart) :
    b.linkStands ((x.without p).runPart hrdy p) := by
  have hkept := State.runPart_memory (P := fun c l => c.holdPending = false ∧ l = b.link) (hrdy := hrdy) (s := x.without p)
    (fun y tr _ hy => ?_) (fun y _ hy => ?_) (fun c l f hc => hc) ⟨h.hold, h.link⟩ p
  · exact ⟨hkept.1, hkept.2⟩
  · obtain ⟨hhold, hlink⟩ := hy
    rcases y.takeTrigger_cases hrdy tr with ⟨-, -, e⟩ | ⟨-, hpending, -⟩ | ⟨-, e⟩ | ⟨-, -, e⟩ | ⟨-, -, e⟩
    case inr.inl => exact absurd hpending (Bool.eq_false_iff.mp hhold)
    all_goals
      rw [e]
      exact ⟨hhold, hlink⟩
  · obtain ⟨hhold, hlink⟩ := hy
    rw [State.takeFrame_of_no_hold hhold, State.notifyAll_capture, State.notifyAll_link]
    exact ⟨(Capture.takeFrame_holdPending _).trans hhold, hlink⟩

/-! ## The Conditioner's record of a completed cycle (R22 to R25, R36) -/

theorem State.takeVerdict_of_no_check {c : Cycle} (h : c.selfCheck = false) (s : State) : s.takeVerdict c = s := by
  rw [State.takeVerdict, h]
  rfl

theorem State.takeRecord_cond {s : State} {c : Cycle} (h : s.scanner.cycle = some c) :
    s.takeRecord.cond.epochCycles = s.cond.epochCycles + 1 ∧
    (c.selfCheck = false →
      s.takeRecord.cond = { s.cond with
        channels := s.takeRecord.cond.channels, epochCycles := s.cond.epochCycles + 1 }) ∧
    (c.selfCheck = true → s.takeRecord.cond.selfCheck ≠ .scheduled) := by
  have hentries := State.takeEntries_cond c s.flight.entries (s.setFlight { s.flight with entries := [] })
  rw [State.takeRecord_of_cycle h]
  dsimp only
  rw [State.setCond_cond]
  cases hcheck : c.selfCheck with
  | false =>
    rw [State.takeVerdict_of_no_check hcheck, hentries]
    exact ⟨rfl, fun _ => rfl, nofun⟩
  | true =>
    rw [State.takeVerdict_cond hcheck, hentries]
    refine ⟨rfl, nofun, fun _ => ?_⟩
    dsimp only
    split <;> nofun

theorem State.startNext_cond {s : State} {g : CycleStart} (h : s.flight.given = some g) : s.startNext.cond =
    { s.cond with selfCheck := if s.cond.selfCheck = .scheduled then .running else s.cond.selfCheck } := by
  rw [State.startNext_of_some s h, State.startCycle_eq]
  cases hcheck : s.cond.selfCheck <;> simp [hcheck]

/-- Since `s`, at which cycle `c` completed, the Conditioner has taken its record or part of it, and the start its check. -/
structure State.recorded (s : State) (c : Cycle) (x : State) : Prop where
  before : .entries ∈ x.flight.parts → x.cond = { s.cond with channels := x.cond.channels }
  counted : .entries ∉ x.flight.parts → x.cond.epochCycles = s.cond.epochCycles + 1
  check : .entries ∉ x.flight.parts → .start ∈ x.flight.parts → decide (x.cond.selfCheck = .scheduled) =
    (decide (s.cond.selfCheck = .scheduled) && !c.selfCheck)
  quiet : c.selfCheck = false → x.cond.verdict = s.cond.verdict ∧ x.cond.origin = s.cond.origin ∧
    x.cond.autoCount = s.cond.autoCount ∧ x.cond.selfCheck =
      if .start ∈ x.flight.parts then s.cond.selfCheck
      else if s.cond.selfCheck = .scheduled then .running else s.cond.selfCheck

/-- The state at which the record of the completed cycle `c` has been delivered (R18). -/
def State.delivered (s : State) (c : Cycle) : State := s.setFlight (s.flightOf c cycleParts c.sums)

theorem State.recorded.runPart {s x : State} {c : Cycle} {check : Bool} (hcycle : s.scanner.cycle = some c)
    (h : s.recorded c x) (hcycled : (s.delivered c).cycled check x) (hway : (s.delivered c).underWay x) {p : CompletionPart}
    (hwaits : waitsAs p ∈ x.flight.parts) (hfree : ∀ q ∈ mustFollow p, q ∉ x.flight.parts) (hrdy : Bool) :
    s.recorded c ((x.without p).runPart hrdy p) := by
  have hstays (q : CompletionPart) (hq : q ≠ p) :
      q ∈ ((x.without p).runPart hrdy p).flight.parts ↔ q ∈ x.flight.parts :=
    State.mem_runPart.trans (and_iff_left hq)
  have hgone : p ∉ ((x.without p).runPart hrdy p).flight.parts := fun h => (State.mem_runPart.mp h).2 rfl
  have hstarts : .start ∈ (s.delivered c).flight.parts := (by decide : .start ∈ cycleParts)
  have hwaiting (hentries : .entries ∈ x.flight.parts) : .start ∈ x.flight.parts := by
    by_contra hstarted
    exact (hcycled.last hstarts hstarted).1 hentries
  obtain ⟨before, counted, check, quiet⟩ := h
  by_cases hentries : waitsAs p = .entries
  · rw [hentries] at hwaits
    have hstart := hwaiting hwaits
    have hbefore := before hwaits
    have hcheck : x.cond.selfCheck = s.cond.selfCheck := by rw [hbefore]
    by_cases hwhole : p = .entries
    · subst hwhole
      have hc : (x.without .entries).scanner.cycle = some c := by
        rw [State.without_scanner, hcycled.waits (.inl hstart)]
        exact hcycle
      obtain ⟨hcount, hquiet, hverdict⟩ := State.takeRecord_cond hc
      refine ⟨fun h => absurd h hgone, fun _ => hcount.trans ?_, fun _ _ => ?_, fun hno => ?_⟩
      · rw [State.without_cond, hbefore]
      · cases hno : c.selfCheck with
        | true =>
          have hnot : ((x.without .entries).runPart hrdy .entries).cond.selfCheck ≠ .scheduled := hverdict hno
          simpa using hnot
        | false =>
          show decide ((x.without .entries).takeRecord.cond.selfCheck = .scheduled) = _
          rw [hquiet hno, State.without_cond, hcheck, Bool.not_false, Bool.and_true]
      · rw [if_pos ((hstays _ (by decide)).mpr hstart)]
        show (x.without .entries).takeRecord.cond.verdict = _ ∧ (x.without .entries).takeRecord.cond.origin = _ ∧
          (x.without .entries).takeRecord.cond.autoCount = _ ∧ (x.without .entries).takeRecord.cond.selfCheck = _
        rw [hquiet hno, State.without_cond, hbefore]
        exact ⟨rfl, rfl, rfl, rfl⟩
    · have hone : p = .nextEntry := by
        cases p with
        | nextEntry => rfl
        | entries => exact absurd rfl hwhole
        | _ => simp [waitsAs] at hentries
      subst hone
      have hcond := (x.without .nextEntry).takeNextEntry_cond
      have hstill : .entries ∈ ((x.without .nextEntry).runPart hrdy .nextEntry).flight.parts :=
        (hstays _ (by decide)).mpr hwaits
      refine ⟨fun _ => ?_, fun h => absurd hstill h, fun h => absurd hstill h, fun hno => ?_⟩
      · show (x.without .nextEntry).takeNextEntry.cond = _
        rw [hcond, State.without_cond, hbefore]
        rfl
      · rw [if_pos ((hstays _ (by decide)).mpr hstart)]
        show (x.without .nextEntry).takeNextEntry.cond.verdict = _ ∧ (x.without .nextEntry).takeNextEntry.cond.origin = _ ∧
          (x.without .nextEntry).takeNextEntry.cond.autoCount = _ ∧ (x.without .nextEntry).takeNextEntry.cond.selfCheck = _
        rw [hcond, State.without_cond, hbefore]
        exact ⟨rfl, rfl, rfl, rfl⟩
  · have hmember : .entries ∈ ((x.without p).runPart hrdy p).flight.parts ↔ .entries ∈ x.flight.parts :=
      hstays _ fun h => hentries (h ▸ rfl)
    by_cases hstart : p = .start
    · subst hstart
      have hwaits : .start ∈ x.flight.parts := hwaits
      have hno : .entries ∉ x.flight.parts := hfree _ (by decide)
      have hcounted : .count ∉ x.flight.parts := hfree _ (by decide)
      have hgiven : (x.without .start).flight.given = some (x.tracker.cycleStart x.time.fnom) :=
        (hcycled.given hwaits hcounted).trans (if_pos (by decide : .count ∈ cycleParts))
      have hcond : ((x.without .start).runPart hrdy .start).cond = _ := State.startNext_cond hgiven
      refine ⟨fun h => absurd (hmember.mp h) hno, fun _ => ?_, fun _ h => absurd h hgone, fun hquiet => ?_⟩
      · rw [hcond]
        exact counted hno
      · obtain ⟨hverdict, horigin, hauto, hself⟩ := quiet hquiet
        rw [if_pos hwaits] at hself
        rw [hcond, if_neg hgone]
        refine ⟨hverdict, horigin, hauto, ?_⟩
        rw [State.without_cond, hself]
    · have hsettings : p ≠ .settings := by
        rintro rfl
        exact absurd (hway.parts _ hwaits) (by decide : .settings ∉ cycleParts)
      have hcond := State.runPart_cond hrdy (x.without p) hentries hstart hsettings
      rw [State.without_cond] at hcond
      have hstarted := hstays .start (Ne.symm hstart)
      refine ⟨fun h => ?_, fun h => ?_, fun h h' => ?_, fun h => ?_⟩
      · rw [hcond]
        exact before (hmember.mp h)
      · rw [hcond]
        exact counted (hmember.not.mp h)
      · rw [hcond]
        exact check (hmember.not.mp h) (hstarted.mp h')
      · simp only [hcond, hstarted]
        exact quiet h

end Sys2Proof.Machine

namespace Sys2Proof.Machine

/-! ## A whole cycle completion that ends no epoch (R18) -/

/-- The parts of a cycle completion reach neither the slots nor the Annunciator. -/
theorem State.runPart_panel {p : CompletionPart} (hp : waitsAs p ∈ cycleParts) (hrdy : Bool) (s : State) :
    (s.runPart hrdy p).slots = s.slots ∧ (s.runPart hrdy p).ann = s.ann := by
  cases p with
  | entries | steps | frame | count | start => simp [State.runPart]
  | nextEntry => simp [State.runPart]
  | nextStep => rcases s.takeNextStep_cases hrdy with e | ⟨_, _, _, e⟩ <;> simp [State.runPart, e]
  | _ => simp [waitsAs, cycleParts] at hp

/-- What holds from the completion of cycle `c` on, while its parts are taken. -/
structure State.cycleTaken (s : State) (c : Cycle) (x : State) : Prop where
  way : (s.delivered c).underWay x
  slots : x.slots = s.slots
  ann : x.ann = s.ann
  cycled : (s.delivered c).cycled (decide (s.cond.selfCheck = .scheduled) && !c.selfCheck) x
  recorded : s.recorded c x

theorem State.cycleTaken_delivered (s : State) (c : Cycle) : s.cycleTaken c (s.delivered c) := by
  refine ⟨State.underWay_refl _, rfl, rfl, State.cycled_refl _ _, fun _ => rfl, fun h => absurd ?_ h, fun h => absurd ?_ h,
    fun _ => ⟨rfl, rfl, rfl, (if_pos (by decide : .start ∈ cycleParts)).symm⟩⟩
  all_goals exact (by decide : .entries ∈ cycleParts)

theorem State.cycleTaken.runPart {s x : State} {c : Cycle} (hcycle : s.scanner.cycle = some c) (h : s.cycleTaken c x)
    {p : CompletionPart} (hwaits : waitsAs p ∈ x.flight.parts) (hfree : ∀ q ∈ mustFollow p, q ∉ x.flight.parts) (hrdy : Bool) :
    s.cycleTaken c ((x.without p).runPart hrdy p) := by
  obtain ⟨hway, hslots, hann, hcycled, hrecorded⟩ := h
  have hp : waitsAs p ∈ cycleParts := hway.parts _ hwaits
  have hsettings : p ≠ .settings := by
    rintro rfl
    exact absurd hp (by decide)
  obtain ⟨hslots', hann'⟩ := (x.without p).runPart_panel hp hrdy
  refine ⟨hway.runPart (.inl hsettings) hrdy, hslots'.trans hslots, hann'.trans hann,
    hcycled.runPart hway hwaits hfree (fun hstart => ?_) hrdy, hrecorded.runPart hcycle hcycled hway hwaits hfree hrdy⟩
  subst hstart
  exact hrecorded.check (hfree _ (by decide)) hwaits

theorem State.cycleTaken.takeParts {s x : State} {c : Cycle} (hcycle : s.scanner.cycle = some c) (h : s.cycleTaken c x)
    (hrdy : Bool) (ps : List CompletionPart) : s.cycleTaken c (x.takeParts hrdy ps) :=
  State.takeParts_keeps (P := s.cycleTaken c) (fun _ _ hx hwaits hfree => hx.runPart hcycle hwaits hfree hrdy) ps x h

/-- A whole completion that ends no epoch takes every part. -/
theorem exec_cycleCompletion_whole {s : State} {c : Cycle} (h : s.completes c)
    (hend : s.cond.epochCycles + 1 ≠ s.store.applied.general.epochCycles) (order : List CompletionPart) (hrdy : Bool) :
    ∃ ps, exec (.cycleCompletion order true hrdy) s = .next ((s.delivered c).takeParts hrdy ps) ∧
      ((s.delivered c).takeParts hrdy ps).flight.parts = [] := by
  have ⟨_, hcycle, _⟩ := h
  have htaken := (s.cycleTaken_delivered c).takeParts hcycle hrdy
  have hnotDue : (((s.delivered c).takeParts hrdy order).takeParts hrdy [.entries]).epochDue = false := by
    have hx := (htaken order).takeParts hcycle hrdy [.entries]
    have hentries : .entries ∉ (((s.delivered c).takeParts hrdy order).takeParts hrdy [.entries]).flight.parts :=
      State.takePart_removes hrdy rfl (fun q hq => absurd hq (by simp [mustFollow]))
    rw [State.epochDue, hx.recorded.counted hentries, hx.way.store]
    exact beq_eq_false_iff_ne.mpr hend
  refine ⟨(order ++ [.entries]) ++ cycleParts, (exec_cycleCompletion_of_completes h order true hrdy).trans ?_, ?_⟩
  · rw [State.takeParts_append, State.takeParts_append]
    refine congrArg Host.Outcome.next ?_
    rw [State.runCycleParts, if_pos rfl]
    exact if_neg (Bool.eq_false_iff.mp hnotDue)
  · rw [State.takeParts_append]
    exact State.takeParts_all hrdy inOrder_cycleParts (htaken _).way.parts

/-! ## One part of a cycle completion that is under way -/

theorem exec_cyclePart {s : State} {p : CompletionPart} (hrun : s.time.phase = .running)
    (hsettings : .settings ∉ s.flight.parts) (hwhole : waitsAs p = p) (hwaits : p ∈ s.flight.parts)
    (hfree : ∀ q ∈ mustFollow p, q ∉ s.flight.parts) (hrdy : Bool) :
    exec (.cycleCompletion [p] false hrdy) s = .next ((s.without p).runPart hrdy p) := by
  have hnone : s.flight.parts.isEmpty = false := by
    rw [List.isEmpty_eq_false_iff]
    exact List.ne_nil_of_mem hwaits
  have hdue : s.completionDue = false := by simp [State.completionDue, hnone]
  have hflight : s.cycleInFlight = true := by
    simp [State.cycleInFlight, hnone, hsettings, s.isRunning_iff.mpr hrun]
  have hpart : s.takePart hrdy p = (s.without p).runPart hrdy p := State.takePart_of_waiting (hwhole.symm ▸ hwaits) hfree hrdy
  rw [← hpart]
  simp [exec, execCycleCompletion, hdue, hflight, State.runCycleParts, State.takeParts]

/-- Settles O10: whatever the order, the count and the start are each taken once, the start on what the tracker gave. -/
theorem cycleCompletionStartsTheNextCycle : Obligations.CycleCompletionStartsTheNextCycle := by
  unfold Obligations.CycleCompletionStartsTheNextCycle
  refine ⟨fun s c order hrdy hcompletes hend => ?_, fun s hrdy hrun hsettings => ⟨fun hwaits => ?_, fun g hwaits hfree hgiven => ?_⟩⟩
  · have ⟨_, hcycle, _⟩ := hcompletes
    obtain ⟨ps, hexec, hparts⟩ := exec_cycleCompletion_whole hcompletes hend order hrdy
    obtain ⟨hway, hslots, hann, hcycled, hrecorded⟩ := (s.cycleTaken_delivered c).takeParts hcycle hrdy ps
    have hnone (q : CompletionPart) : q ∉ ((s.delivered c).takeParts hrdy ps).flight.parts := by simp [hparts]
    have hcount : .count ∈ (s.delivered c).flight.parts := (by decide : .count ∈ cycleParts)
    have hstart : .start ∈ (s.delivered c).flight.parts := (by decide : .start ∈ cycleParts)
    obtain ⟨hperiod, hdegraded⟩ := State.givesPeriod_cycleStart ((s.delivered c).takeParts hrdy ps)
    have hopened := hcycled.opened hstart (hnone _) _ (if_pos hcount)
    rw [hdegraded] at hopened
    refine ⟨_, hexec, ?_, fun hhold => ?_, hway.tells.front, fun hno hidle => ?_, fun hno hscheduled => ?_, hparts,
      hrecorded.counted (hnone _), hway.epoch, hcycled.moved hcount (hnone _), _, hperiod, hopened⟩
    · exact State.ext_blocks hway.pending hway.time rfl rfl rfl hslots hann rfl hway.store rfl rfl rfl
    · have hlink := State.takeParts_keeps (P := (s.delivered c).linkStands) (hrdy := hrdy)
        (fun x p hx _ _ => hx.runPart hrdy p) ps (s.delivered c) ⟨hhold, rfl⟩
      exact hlink.link
    · obtain ⟨hverdict, horigin, hauto, hself⟩ := hrecorded.quiet hno
      rw [if_neg (hnone _), if_neg hidle] at hself
      exact ⟨hself, hverdict, horigin, hauto⟩
    · obtain ⟨hverdict, horigin, hauto, hself⟩ := hrecorded.quiet hno
      rw [if_neg (hnone _), if_pos hscheduled] at hself
      exact ⟨hself, hverdict, horigin, hauto⟩
  · have hexec := exec_cyclePart (p := .count) hrun hsettings rfl hwaits (fun q hq => absurd hq (by simp [mustFollow])) hrdy
    obtain ⟨hperiod, hdegraded⟩ := State.givesPeriod_cycleStart (s.without .count).countCompletion
    refine ⟨_, (s.without .count).countCompletion.tracker.cycleStart (s.without .count).countCompletion.time.fnom, hexec, ?_,
      State.countedBy_countCompletion (s := s.without .count) rfl (State.tells_of_eq rfl) rfl, hperiod, hdegraded⟩
    refine State.ext_blocks (State.countCompletion_pending _) (State.countCompletion_time _) rfl
      (State.countCompletion_scanner _) (State.countCompletion_cond _) (State.countCompletion_slots _)
      (State.countCompletion_ann _) (State.countCompletion_capture _) (State.countCompletion_store _)
      (State.countCompletion_link _) rfl ?_
    show (s.without .count).countCompletion.flight = _
    rw [State.countCompletion_tracker, State.countCompletion_time, State.countCompletion_eq]
    rfl
  · have hexec := exec_cyclePart (p := .start) hrun hsettings rfl hwaits hfree hrdy
    have hnext := State.startNext_of_some (s.without .start) hgiven
    rw [State.startCycle_eq] at hnext
    refine ⟨_, hexec, ?_, State.opensCycle_startNext (s := s.without .start) hgiven rfl rfl rfl⟩
    show (s.without .start).startNext = { s with
      scanner := (s.without .start).startNext.scanner, cond := (s.without .start).startNext.cond
      capture := (s.without .start).startNext.capture, flight := (s.without .start).startNext.flight }
    rw [hnext]
    rfl

end Sys2Proof.Machine

namespace Sys2Proof.Machine

/-! ## One channel entry (R22 to R24) -/

theorem ChannelRecord.takeEntry_of_disabled {r : ChannelRecord} (h : r.state = .disabled) (x : ChannelSums) (d : Bool) :
    r.takeEntry x d = r := if_pos h

theorem ChannelRecord.takeEntry_of_stuck {r : ChannelRecord} (h : r.state ≠ .disabled) {x : ChannelSums}
    (hstuck : x.stuck = true) (d : Bool) : r.takeEntry x d = { r with
      lastCq := (x.sum + 1) / 2, stuckRun := min 3 (r.stuckRun + 1), cleanRun := 0
      state := if r.state = .ok ∧ 2 ≤ r.stuckRun then .fault else r.state } := by
  rw [ChannelRecord.takeEntry, if_neg h, hstuck]
  cases hstate : r.state with
  | disabled => exact absurd hstate h
  | ok =>
    have hrun : min 3 (r.stuckRun + 1) = 3 ↔ 2 ≤ r.stuckRun := by omega
    simp [ChannelRecord.moveRuns, nextChannelState, hstate, hrun, cycleMean]
  | fault => simp [ChannelRecord.moveRuns, nextChannelState, hstate, cycleMean]

theorem ChannelRecord.takeEntry_of_clean {r : ChannelRecord} (h : r.state ≠ .disabled) {x : ChannelSums}
    (hstuck : x.stuck = false) (d : Bool) : r.takeEntry x d = { r with
      lastCq := (x.sum + 1) / 2, stuckRun := 0, cleanRun := min 3 (r.cleanRun + 1)
      state := if r.state = .fault ∧ 2 ≤ r.cleanRun then .ok else r.state
      sum := r.sum + x.sum, count := r.count + 1, clipSeen := r.clipSeen || x.clip
      degradedSeen := r.degradedSeen || d } := by
  rw [ChannelRecord.takeEntry, if_neg h, hstuck]
  cases hstate : r.state with
  | disabled => exact absurd hstate h
  | ok => simp [ChannelRecord.moveRuns, ChannelRecord.contribute, nextChannelState, hstate, cycleMean]
  | fault =>
    have hrun : min 3 (r.cleanRun + 1) = 3 ↔ 2 ≤ r.cleanRun := by omega
    simp [ChannelRecord.moveRuns, ChannelRecord.contribute, nextChannelState, hstate, hrun, cycleMean]

/-- Notices queued for one event are all told since any state of the epoch before it (R165). -/
theorem State.told_notifyAll {s : State} {b : NoticeBody} (bs : List NoticeBody) : ∀ {u : State},
    s.notices.queue <+: u.notices.queue → u.cond.epochNumber = s.cond.epochNumber → b ∈ bs →
      s.told (u.notifyAll bs) b := by
  induction bs with
  | nil => exact fun _ _ h => absurd h List.not_mem_nil
  | cons a bs ih =>
    intro u hfront hepoch hb
    rcases List.mem_cons.mp hb with rfl | hb
    · exact (State.told_notify b hfront hepoch).tells (State.tells_notifyAll bs (u.notify b))
    · exact ih (u := u.notify a) (hfront.trans (u.tells_notify a).front) hepoch hb

/-! ## The entries of a record (R22, R23) -/

/-- Since `s` the entries of `done` have been taken of the record of `c`, each with its notice. -/
structure State.entered (s : State) (c : Cycle) (done : List ChannelSums) (x : State) : Prop where
  epoch : x.cond.epochNumber = s.cond.epochNumber
  tells : s.tells x
  others : ∀ i, i ∉ done.map (·.chan) → x.cond.channels.get i = s.cond.channels.get i
  taken : ∀ e ∈ done, x.cond.channels.get e.chan = (s.cond.channels.get e.chan).takeEntry e c.degraded
  told : ∀ e ∈ done, ∀ b ∈ faultNotice e.chan (s.cond.channels.get e.chan).state
    ((s.cond.channels.get e.chan).takeEntry e c.degraded).state, s.told x b

theorem State.entered.of_channels {s x y : State} {c : Cycle} {done : List ChannelSums} (h : s.entered c done x)
    (hchannels : y.cond.channels = x.cond.channels) (hepoch : y.cond.epochNumber = x.cond.epochNumber) (htells : x.tells y) :
    s.entered c done y := by
  obtain ⟨epoch, tells, others, taken, told⟩ := h
  exact ⟨hepoch.trans epoch, tells.trans htells, fun i hi => hchannels ▸ others i hi, fun e he => hchannels ▸ taken e he,
    fun e he b hb => (told e he b hb).tells htells⟩

theorem State.entered.takeEntry {s x : State} {c : Cycle} {done : List ChannelSums} (h : s.entered c done x)
    {e : ChannelSums} (hnew : e.chan ∉ done.map (·.chan)) : s.entered c (done ++ [e]) (x.takeEntry c e) := by
  obtain ⟨epoch, tells, others, taken, told⟩ := h
  have hrecord := others e.chan hnew
  have hchannel (i : Fin 16) : (x.takeEntry c e).cond.channels.get i =
      if i = e.chan then (s.cond.channels.get e.chan).takeEntry e c.degraded else x.cond.channels.get i := by
    simp only [State.takeEntry, State.notifyAll_cond, State.setCond_cond, Table.get_set, hrecord]
  have htells := x.tells_takeEntry c e
  refine ⟨?_, tells.trans htells, fun i hi => ?_, fun d hd => ?_, fun d hd b hb => ?_⟩
  · rw [State.takeEntry, State.notifyAll_cond]
    exact epoch
  · rw [List.map_append, List.mem_append, not_or] at hi
    rw [hchannel, if_neg fun he => hi.2 (by simp [he])]
    exact others i hi.1
  · rw [hchannel]
    rcases List.mem_append.mp hd with hd | hd
    · rw [if_neg fun he : d.chan = e.chan => hnew (he ▸ List.mem_map_of_mem hd)]
      exact taken d hd
    · rw [List.mem_singleton.mp hd, if_pos rfl]
  · rcases List.mem_append.mp hd with hd | hd
    · exact (told d hd b hb).tells htells
    · rw [List.mem_singleton.mp hd] at hb
      rw [State.takeEntry]
      dsimp only
      rw [hrecord]
      exact State.told_notifyAll _ tells.front epoch hb

theorem State.entered.takeEntries {s : State} {c : Cycle} (xs : List ChannelSums) : ∀ {done : List ChannelSums} {x : State},
    s.entered c done x → ((done ++ xs).map (·.chan)).Nodup →
      s.entered c (done ++ xs) (xs.foldl (State.takeEntry c) x) := by
  induction xs with
  | nil => exact fun h _ => by simpa using h
  | cons e xs ih =>
    intro done x h hnodup
    have hnew : e.chan ∉ done.map (·.chan) := by
      rw [List.map_append, List.nodup_append] at hnodup
      exact fun hmem => hnodup.2.2 _ hmem _ (by simp) rfl
    have hnext := ih (h.takeEntry hnew) (by simpa using hnodup)
    simpa using hnext

theorem State.takeVerdict_channels (c : Cycle) (s : State) : (s.takeVerdict c).cond.channels = s.cond.channels := by
  cases hc : c.selfCheck with
  | false => rw [State.takeVerdict_of_no_check hc]
  | true => rw [State.takeVerdict_cond hc]

theorem State.takeVerdict_epochNumber (c : Cycle) (s : State) :
    (s.takeVerdict c).cond.epochNumber = s.cond.epochNumber := by
  cases hc : c.selfCheck with
  | false => rw [State.takeVerdict_of_no_check hc]
  | true => rw [State.takeVerdict_cond hc]

/-- Taken whole, a record's entries are those that wait of it. -/
theorem State.entered.takeRecord {s x : State} {c : Cycle} {done : List ChannelSums} (h : s.entered c done x)
    (hcycle : x.scanner.cycle = some c) (hnodup : ((done ++ x.flight.entries).map (·.chan)).Nodup) :
    s.entered c (done ++ x.flight.entries) x.takeRecord := by
  have hall := State.entered.takeEntries x.flight.entries
    (x := x.setFlight { x.flight with entries := [] }) (h.of_channels rfl rfl (State.tells_of_eq rfl)) hnodup
  rw [State.takeRecord_of_cycle hcycle]
  exact hall.of_channels (State.takeVerdict_channels ..) (State.takeVerdict_epochNumber ..) (State.tells_takeVerdict ..)

/-! ## Entries one by one (R22) -/

theorem State.takeNextEntry_without (p : CompletionPart) (s : State) :
    (s.without p).takeNextEntry = s.takeNextEntry.without p := by
  cases hcycle : s.scanner.cycle with
  | none => simp only [State.takeNextEntry, State.without_scanner, hcycle]
  | some c =>
    cases hentries : s.flight.entries with
    | nil => simp only [State.takeNextEntry, State.without_scanner, State.without_flight, hcycle, hentries]
    | cons e rest =>
      simp only [State.takeNextEntry, State.without_scanner, State.without_flight, hcycle, hentries,
        State.takeEntry_setFlight]
      simp only [State.without, State.setFlight_flight, State.takeEntry_setFlight]
      rfl

/-- Entries taken one by one before the record leave what the record alone leaves. -/
theorem State.takeParts_nextEntries (hrdy : Bool) (n : Nat) : ∀ {s : State}, .entries ∈ s.flight.parts →
    .nextEntry ∉ s.flight.parts →
      s.takeParts hrdy (List.replicate n .nextEntry ++ [.entries]) = s.takeParts hrdy [.entries] := by
  have hfree (s : State) : ∀ q ∈ mustFollow .entries, q ∉ s.flight.parts := fun q hq => absurd hq (by simp [mustFollow])
  induction n with
  | zero => exact fun _ _ => rfl
  | succ n ih =>
    intro s hwaits hone
    have hsame : s.without .nextEntry = s := by
      have hall : s.flight.parts.filter (· ≠ .nextEntry) = s.flight.parts :=
        List.filter_eq_self.mpr fun q hq => decide_eq_true fun h => hone (h ▸ hq)
      rw [State.without, hall]
      rfl
    have hnext : s.takePart hrdy .nextEntry = s.takeNextEntry := by
      have h := State.takePart_of_waiting (p := .nextEntry) hwaits (fun q hq => absurd hq (by simp [mustFollow])) hrdy
      exact h.trans (congrArg State.takeNextEntry hsame)
    have hparts : s.takeNextEntry.flight.parts = s.flight.parts := s.takeNextEntry_parts
    have hlast (x : State) (hx : .entries ∈ x.flight.parts) :
        x.takeParts hrdy [.entries] = (x.without .entries).takeRecord :=
      State.takePart_of_waiting (p := .entries) hx (hfree x) hrdy
    calc s.takeParts hrdy (List.replicate (n + 1) .nextEntry ++ [.entries])
        = (s.takePart hrdy .nextEntry).takeParts hrdy (List.replicate n .nextEntry ++ [.entries]) := rfl
      _ = s.takeNextEntry.takeParts hrdy [.entries] := by
        rw [hnext]
        exact ih (hparts ▸ hwaits) (hparts ▸ hone)
      _ = (s.takeNextEntry.without .entries).takeRecord := hlast _ (hparts ▸ hwaits)
      _ = (s.without .entries).takeRecord := by
        rw [← State.takeNextEntry_without, State.takeRecord_takeNextEntry]
      _ = s.takeParts hrdy [.entries] := (hlast s hwaits).symm

/-! ## The entries along a completion -/

/-- The entries that wait of the record are reached by the Conditioner alone. -/
theorem State.runPart_entries {p : CompletionPart} (hp : waitsAs p ∈ cycleParts) (hentries : waitsAs p ≠ .entries) (hrdy : Bool)
    (s : State) : (s.runPart hrdy p).flight.entries = s.flight.entries := by
  cases p with
  | entries | nextEntry => exact absurd rfl hentries
  | steps | frame => simp [State.runPart]
  | nextStep => rcases s.takeNextStep_cases hrdy with e | ⟨_, _, _, e⟩ <;> simp [State.runPart, e]
  | count => simp [State.runPart, State.countCompletion_eq]
  | start =>
    cases h : s.flight.given with
    | none => rw [State.runPart, State.startNext_of_none s h]
    | some g => rw [State.runPart, State.startNext_of_some s h, State.startCycle_eq]; rfl
  | _ => simp [waitsAs, cycleParts] at hp

theorem State.runPart_cycleChannels {p : CompletionPart} (hp : waitsAs p ∈ cycleParts) (hentries : waitsAs p ≠ .entries)
    (hrdy : Bool) (s : State) : (s.runPart hrdy p).cond.channels = s.cond.channels := by
  cases p with
  | entries | nextEntry => exact absurd rfl hentries
  | steps | frame | count | start => simp [State.runPart]
  | nextStep => simp [State.runPart]
  | _ => simp [waitsAs, cycleParts] at hp

/-- Since cycle `c` completed, some of its entries have been taken, and the others wait. -/
def State.entering (s : State) (c : Cycle) (x : State) : Prop := ∃ done, s.entered c done x ∧
  done ++ (if .entries ∈ x.flight.parts then x.flight.entries else []) = c.sums

theorem State.entering_delivered (s : State) (c : Cycle) : s.entering c (s.delivered c) := by
  refine ⟨[], ⟨rfl, State.tells_of_eq rfl, fun _ _ => rfl, nofun, nofun⟩, ?_⟩
  have hwaits : .entries ∈ (s.delivered c).flight.parts := (by decide : .entries ∈ cycleParts)
  rw [if_pos hwaits]
  rfl

theorem State.entering.runPart {s x : State} {c : Cycle} (hcycle : s.scanner.cycle = some c)
    (hnodup : (c.sums.map (·.chan)).Nodup) (h : s.entering c x) (htaken : s.cycleTaken c x) {p : CompletionPart}
    (hwaits : waitsAs p ∈ x.flight.parts) (hrdy : Bool) : s.entering c ((x.without p).runPart hrdy p) := by
  have hparts : ((x.without p).runPart hrdy p).flight.parts = x.flight.parts.filter (· ≠ p) := State.runPart_waiting ..
  obtain ⟨done, hentered, hsums⟩ := h
  have hwithout : s.entered c done (x.without p) := hentered.of_channels rfl rfl (State.tells_of_eq rfl)
  have hp : waitsAs p ∈ cycleParts := htaken.way.parts _ hwaits
  by_cases hentries : waitsAs p = .entries
  · rw [hentries] at hwaits
    rw [if_pos hwaits] at hsums
    have hstart : .start ∈ x.flight.parts := by
      by_contra hstarted
      exact (htaken.cycled.last (by decide : .start ∈ cycleParts) hstarted).1 hwaits
    have hc : (x.without p).scanner.cycle = some c := by
      rw [State.without_scanner, htaken.cycled.waits (.inl hstart)]
      exact hcycle
    by_cases hwhole : p = .entries
    · subst hwhole
      refine ⟨c.sums, ?_, ?_⟩
      · have hall := hwithout.takeRecord hc (by rw [State.without_flight, hsums]; exact hnodup)
        rw [State.without_flight, hsums] at hall
        exact hall
      · rw [hparts, if_neg (by simp), List.append_nil]
    · have hone : p = .nextEntry := by
        cases p with
        | nextEntry => rfl
        | entries => exact absurd rfl hwhole
        | _ => simp [waitsAs] at hentries
      subst hone
      have hstill : .entries ∈ x.flight.parts.filter (· ≠ .nextEntry) := List.mem_filter.mpr ⟨hwaits, by decide⟩
      show s.entering c (x.without .nextEntry).takeNextEntry
      cases hrest : x.flight.entries with
      | nil =>
        have hstays : (x.without .nextEntry).takeNextEntry = x.without .nextEntry := by
          simp only [State.takeNextEntry, hc, State.without_flight, hrest]
        rw [hstays]
        refine ⟨done, hwithout, ?_⟩
        rw [State.without_flight, if_pos hstill]
        exact hsums
      | cons e rest =>
        have htakes : (x.without .nextEntry).takeNextEntry =
            ((x.without .nextEntry).setFlight { (x.without .nextEntry).flight with entries := rest }).takeEntry c e := by
          simp only [State.takeNextEntry, hc, State.without_flight, hrest]
        rw [htakes]
        have hnew : e.chan ∉ done.map (·.chan) := by
          rw [← hsums, hrest, List.map_append, List.nodup_append] at hnodup
          exact fun hmem => hnodup.2.2 _ hmem _ (by simp) rfl
        have hhanded : s.entered c done
            ((x.without .nextEntry).setFlight { (x.without .nextEntry).flight with entries := rest }) :=
          hwithout.of_channels rfl rfl (State.tells_of_eq rfl)
        refine ⟨done ++ [e], hhanded.takeEntry hnew, ?_⟩
        rw [State.takeEntry_flight, State.setFlight_flight, State.without_flight, if_pos hstill, ← hsums, hrest]
        simp
  · have hmember : .entries ∈ x.flight.parts.filter (· ≠ p) ↔ .entries ∈ x.flight.parts := by
      rw [List.mem_filter]
      simp only [ne_eq, decide_not, Bool.not_eq_eq_eq_not, Bool.not_true, decide_eq_false_iff_not, and_iff_left_iff_imp]
      exact fun _ h => hentries (h ▸ rfl)
    refine ⟨done, hwithout.of_channels (State.runPart_cycleChannels hp hentries hrdy _) (State.runPart_epochNumber ..)
      (State.tells_runPart ..), ?_⟩
    rw [State.runPart_entries hp hentries, hparts]
    simp only [hmember, State.without_flight]
    exact hsums

/-- A whole cycle completion, whether it ends an epoch or not, has taken the record. -/
theorem exec_cycleCompletion_recorded {s : State} {c : Cycle} (h : s.completes c) (order : List CompletionPart)
    (hrdy : Bool) : ∃ ps, exec (.cycleCompletion order true hrdy) s = .next ((s.delivered c).takeParts hrdy ps) ∧
      .entries ∉ ((s.delivered c).takeParts hrdy ps).flight.parts := by
  have hentries : .entries ∉ (((s.delivered c).takeParts hrdy order).takeParts hrdy [.entries]).flight.parts :=
    State.takePart_removes hrdy rfl (fun q hq => absurd hq (by simp [mustFollow]))
  have hexec := exec_cycleCompletion_of_completes h order true hrdy
  rw [State.runCycleParts, if_pos rfl] at hexec
  dsimp only at hexec
  split at hexec
  · refine ⟨order ++ [.entries], hexec.trans ?_, ?_⟩ <;> rw [State.takeParts_append]
    · rfl
    · exact hentries
  · refine ⟨(order ++ [.entries]) ++ cycleParts, hexec.trans ?_, ?_⟩ <;> rw [State.takeParts_append, State.takeParts_append]
    · rfl
    · exact fun hmem => hentries (State.takeParts_parts hrdy _ hmem)

/-- Settles O11: entries taken one by one are the record's, and each channel takes its own entry once. -/
theorem channelEntriesOfACompletion : Obligations.ChannelEntriesOfACompletion := by
  unfold Obligations.ChannelEntriesOfACompletion
  refine ⟨fun s c n hrdy hcompletes => ?_, fun s c order hrdy hcompletes hnodup => ?_⟩
  · rw [exec_cycleCompletion_of_completes hcompletes, exec_cycleCompletion_of_completes hcompletes]
    exact congrArg Host.Outcome.next (State.takeParts_nextEntries hrdy n (s := s.delivered c)
      (by decide : .entries ∈ cycleParts) (by decide : .nextEntry ∉ cycleParts))
  · have ⟨_, hcycle, _⟩ := hcompletes
    obtain ⟨ps, hexec, hentries⟩ := exec_cycleCompletion_recorded hcompletes order hrdy
    have htaken := State.takeParts_keeps (P := fun x => s.cycleTaken c x ∧ s.entering c x) (hrdy := hrdy)
      (fun x p hx hwaits hfree => ⟨hx.1.runPart hcycle hwaits hfree hrdy, hx.2.runPart hcycle hnodup hx.1 hwaits hrdy⟩) ps (s.delivered c)
      ⟨s.cycleTaken_delivered c, s.entering_delivered c⟩
    obtain ⟨-, done, hentered, hsums⟩ := htaken
    rw [if_neg hentries, List.append_nil] at hsums
    subst hsums
    refine ⟨_, hexec, hentered.others, fun x hx => ?_⟩
    have hrecord := hentered.taken x hx
    have htold := hentered.told x hx
    dsimp only
    rw [hrecord]
    refine ⟨fun hdisabled => ChannelRecord.takeEntry_of_disabled hdisabled .., fun hactive => ?_⟩
    have hfault (h : (s.cond.channels.get x.chan).state = .ok ∧
        ((s.cond.channels.get x.chan).takeEntry x c.degraded).state = .fault) := htold (.channelFault x.chan) (by
      rw [h.1, h.2]
      exact List.mem_singleton_self _)
    have hok (h : (s.cond.channels.get x.chan).state = .fault ∧
        ((s.cond.channels.get x.chan).takeEntry x c.degraded).state = .ok) := htold (.channelRecovered x.chan) (by
      rw [h.1, h.2]
      exact List.mem_singleton_self _)
    cases hstuck : x.stuck with
    | true =>
      have hentry := ChannelRecord.takeEntry_of_stuck hactive hstuck c.degraded
      refine ⟨?_, ?_, ?_, fun _ => ?_, fun hclean => absurd (hstuck.symm.trans hclean) nofun, hfault, hok⟩
      all_goals rw [hentry]
      exact ⟨rfl, rfl, rfl, rfl, rfl, rfl, rfl⟩
    | false =>
      have hentry := ChannelRecord.takeEntry_of_clean hactive hstuck c.degraded
      refine ⟨?_, ?_, ?_, fun hstuck' => absurd (hstuck.symm.trans hstuck') nofun, fun _ => ?_, hfault, hok⟩
      all_goals rw [hentry]
      exact ⟨rfl, rfl, rfl, rfl, rfl, rfl, rfl⟩

end Sys2Proof.Machine

namespace Sys2Proof.Machine

/-! ## STEP triggers handed and taken (R30, R31, R120 to R122, R126) -/

/-- R30: the model's step comparison is the manual's. -/
theorem ChannelRecord.steps_eq (s : State) (x : ChannelSums) :
    (s.cond.channels.get x.chan).steps x (s.applied.channels.get x.chan).stepThreshold = s.stepsAt x := by
  rw [ChannelRecord.steps, State.stepsAt]
  cases (s.cond.channels.get x.chan).lastValid with
  | none => rfl
  | some mq =>
    rw [Bool.eq_iff_iff]
    simp [ChannelSums.stuck, cycleMean, State.applied, and_assoc]

theorem State.stepTriggers_eq (s : State) (c : Cycle) : s.stepTriggers c = s.stepsOf c := by
  simp only [State.stepTriggers, State.stepsOf, ChannelRecord.steps_eq]

theorem State.delivered_steps (s : State) (c : Cycle) : (s.delivered c).flight.steps = s.stepsOf c :=
  s.stepTriggers_eq c

theorem State.takeRecord_steps (s : State) : s.takeRecord.flight.steps = s.flight.steps := by
  cases h : s.scanner.cycle with
  | none => rw [State.takeRecord, h]
  | some c =>
    rw [State.takeRecord_of_cycle h]
    simp

section
variable (hrdy : Bool)

/-- A ring that records already counts every trigger as missed (R122). -/
theorem State.takeTriggers_missed (trs : List Trigger) : ∀ {s : State},
    (s.capture.state = .triggered ∨ s.capture.state = .frozen) → s.capture.missed ≤ 255 →
      (s.takeTriggers hrdy trs).capture = { s.capture with
        missed := min 255 (s.capture.missed + trs.length)
        missReported := s.capture.missReported || !trs.isEmpty } ∧
      (s.takeTriggers hrdy trs).link = s.link := by
  induction trs with
  | nil =>
    intro s _ hmissed
    have hmin : min 255 s.capture.missed = s.capture.missed := by omega
    simp [State.takeTriggers, hmin]
  | cons tr trs ih =>
    intro s hstate hmissed
    have htr := State.takeTrigger_of_recording (s := s) hrdy tr hstate
    have hcapture : (s.takeTrigger hrdy tr).capture = s.capture.miss := by rw [htr]
    obtain ⟨hall, hlink⟩ := ih (s := s.takeTrigger hrdy tr) (by rw [hcapture]; exact hstate)
      (by rw [hcapture]; exact Nat.min_le_left ..)
    refine ⟨hall.trans ?_, hlink.trans (by rw [htr])⟩
    have hcount : min 255 (min 255 (s.capture.missed + 1) + trs.length) = min 255 (s.capture.missed + (trs.length + 1)) := by
      omega
    simp [hcapture, Capture.miss, hcount]

/-- The first miss is reported (R122). -/
theorem State.told_captureMissed {s x : State} {tr : Trigger} (htells : s.tells x)
    (hepoch : x.cond.epochNumber = s.cond.epochNumber) (hstate : x.capture.state = .triggered ∨ x.capture.state = .frozen)
    (hreported : x.capture.missReported = false) (trs : List Trigger) :
    s.told (x.takeTriggers hrdy (tr :: trs)) (.captureMissed tr.cause) := by
  have hfirst : (x.takeTrigger hrdy tr).notices = (x.notify (.captureMissed tr.cause)).notices := by
    rw [State.takeTrigger_of_recording hrdy tr hstate, hreported]
    rfl
  have htold := State.told_notify (.captureMissed tr.cause) htells.front hepoch
  exact (htold.tells (State.tells_of_eq hfirst)).tells (State.tells_takeTriggers hrdy trs _)

theorem State.takeTrigger_capture_taken {s : State} (tr : Trigger)
    (hstate : s.capture.state = .armed ∨ s.capture.state = .held) :
    (s.takeTrigger hrdy tr).capture = { s.capture.trigger s.store.applied.general.preDepth tr with
      holdPending := if s.capture.state = .armed then false else s.capture.holdPending } := by
  rcases hstate with hstate | hstate
  · cases hhold : s.capture.holdPending with
    | false =>
      rw [State.takeTrigger_of_armed hrdy tr hstate hhold, if_pos hstate, ← hhold]
      rfl
    | true =>
      rw [State.takeTrigger_of_pending hrdy tr hstate hhold, State.answer_capture, if_pos hstate]
      rfl
  · rw [State.takeTrigger_of_held hrdy tr hstate, if_neg (hstate ▸ nofun)]
    rfl

theorem State.takeTrigger_link_of_no_pending {s : State} (tr : Trigger)
    (h : s.capture.state ≠ .armed ∨ s.capture.holdPending = false) : (s.takeTrigger hrdy tr).link = s.link := by
  rcases s.takeTrigger_cases hrdy tr with ⟨-, -, e⟩ | ⟨hstate, hpending, -⟩ | ⟨-, e⟩ | ⟨-, -, e⟩ | ⟨-, -, e⟩
  case inr.inl => exact absurd hpending (Bool.eq_false_iff.mp (h.resolve_left (not_not.mpr hstate)))
  all_goals
    rw [e]
    rfl

/-- A trigger that pre-empts a pending hold answers its request BUSY (R126). -/
theorem State.takeTrigger_answered {s : State} (tr : Trigger) (hstate : s.capture.state = .armed)
    (hhold : s.capture.holdPending = true) {r : Service} (hr : s.link.service = some r) :
    (s.takeTrigger hrdy tr).link.service = some { r with stage := .answered } ∧
      (hrdy = false → (s.takeTrigger hrdy tr).link.tx =
        .waitHrdy { kind := r.kind ||| 0x80, tag := r.tag, status := .busy, body := [] }) := by
  have hanswer := State.answerTo_eq
    (s.setCapture { s.capture.trigger s.applied.general.preDepth tr with holdPending := false })
    r.kind r.tag r.payload r.stage .answered .busy [] hrdy hr
  rw [State.takeTrigger_of_pending hrdy tr hstate hhold, State.answer, hanswer]
  exact ⟨rfl, fun h => by rw [h]; rfl⟩

/-- R120 to R122, R126: what of the STEP triggers `trs` Capture Memory has made between `s` and `t`. -/
def State.triggeredBy (s : State) (hrdy : Bool) (trs : List Trigger) (t : State) : Prop :=
  let depth := s.store.applied.general.preDepth
  let kept := min s.capture.ring.length depth
  (trs = [] → t.capture = s.capture ∧ t.link = s.link) ∧
  (s.capture.state ≠ .armed ∨ s.capture.holdPending = false → t.link = s.link) ∧
  ∀ first others, trs = first :: others →
    let taken := { s.capture with
      depth := depth, preKept := kept, ring := s.capture.ring.drop (s.capture.ring.length - kept)
      post := 48 - depth, record := some first, state := .triggered
      missed := min 255 (s.capture.missed + others.length)
      missReported := s.capture.missReported || !others.isEmpty }
    (s.capture.state = .armed → t.capture = { taken with holdPending := false }) ∧
    (s.capture.state = .armed → s.capture.holdPending = true → ∀ r, s.link.service = some r →
      t.link.service = some { r with stage := .answered } ∧
      (hrdy = false →
        t.link.tx = .waitHrdy { kind := r.kind ||| 0x80, tag := r.tag, status := .busy, body := [] })) ∧
    (s.capture.state = .held → t.capture = taken ∧ s.told t (.holdRevoked first.cause)) ∧
    (s.capture.state = .armed ∨ s.capture.state = .held → ∀ second rest, others = second :: rest →
      s.capture.missReported = false → s.told t (.captureMissed second.cause)) ∧
    (s.capture.state = .triggered ∨ s.capture.state = .frozen →
      t.capture = { s.capture with missed := min 255 (s.capture.missed + trs.length), missReported := true } ∧
      (s.capture.missReported = false → s.told t (.captureMissed first.cause)))

theorem State.triggeredBy.of_tells {s t u : State} {trs : List Trigger} (h : s.triggeredBy hrdy trs t)
    (hcapture : u.capture = t.capture) (hlink : u.link = t.link) (htells : t.tells u) : s.triggeredBy hrdy trs u := by
  obtain ⟨hnone, hstands, hsome⟩ := h
  rw [State.triggeredBy, hcapture, hlink]
  refine ⟨hnone, hstands, fun first others htrs => ?_⟩
  obtain ⟨harmed, hpending, hheld, hsecond, hrecording⟩ := hsome first others htrs
  exact ⟨harmed, hpending, fun h => (hheld h).imp_right fun h => h.tells htells,
    fun h second rest ho hr => (hsecond h second rest ho hr).tells htells,
    fun h => (hrecording h).imp_right fun h hr => (h hr).tells htells⟩

/-- Capture Memory meets the triggers one after another, the first with the ring as it stands. -/
theorem State.triggeredBy_takeTriggers {s x : State} (hcapture : x.capture = s.capture) (hlink : x.link = s.link)
    (hstore : x.store = s.store) (hepoch : x.cond.epochNumber = s.cond.epochNumber) (htells : s.tells x)
    (hmissed : s.capture.missed ≤ 255) (trs : List Trigger) : s.triggeredBy hrdy trs (x.takeTriggers hrdy trs) := by
  cases trs with
  | nil => exact ⟨fun _ => ⟨hcapture, hlink⟩, fun _ => hlink, nofun⟩
  | cons tr trs =>
    have hnext : x.takeTriggers hrdy (tr :: trs) = (x.takeTrigger hrdy tr).takeTriggers hrdy trs := rfl
    by_cases hfree : s.capture.state = .armed ∨ s.capture.state = .held
    · have htaken := State.takeTrigger_capture_taken (s := x) hrdy tr (hcapture ▸ hfree)
      rw [hcapture, hstore] at htaken
      have htriggered : (x.takeTrigger hrdy tr).capture.state = .triggered := by rw [htaken]; rfl
      obtain ⟨hall, hstands⟩ := State.takeTriggers_missed hrdy trs (.inl htriggered) (by rw [htaken]; exact hmissed)
      rw [htaken] at hall
      refine ⟨nofun, fun h => ?_, fun first others htrs => ?_⟩
      · rw [hnext, hstands, State.takeTrigger_link_of_no_pending hrdy tr (hcapture ▸ h)]
        exact hlink
      · cases htrs
        refine ⟨fun harmed => ?_, fun harmed hhold r hr => ?_, fun hheld => ⟨?_, ?_⟩, fun _ second rest ho hr => ?_,
          fun h => ?_⟩
        · rw [hnext, hall, if_pos harmed]
          rfl
        · have hr' : x.link.service = some r := hlink ▸ hr
          rw [hnext, hstands]
          exact State.takeTrigger_answered hrdy tr (hcapture ▸ harmed) (hcapture ▸ hhold) hr'
        · rw [hnext, hall, if_neg (hheld ▸ nofun)]
          rfl
        · rw [hnext, State.takeTrigger_of_held hrdy tr (hcapture ▸ hheld)]
          exact (State.told_notify (.holdRevoked tr.cause) htells.front hepoch).tells (State.tells_takeTriggers hrdy trs _)
        · subst ho
          exact State.told_captureMissed hrdy (htells.trans (State.tells_takeTrigger _ hrdy tr))
            (by rw [State.takeTrigger_cond]; exact hepoch) (.inl htriggered) (by rw [htaken]; exact hr) rest
        · rcases hfree with hfree | hfree <;> rw [hfree] at h <;> exact absurd h (by decide)
    · have hrecording : s.capture.state = .triggered ∨ s.capture.state = .frozen := by
        cases hstate : s.capture.state <;> simp_all
      obtain ⟨hall, hstands⟩ := State.takeTriggers_missed (s := x) hrdy (tr :: trs) (hcapture ▸ hrecording) (hcapture ▸ hmissed)
      rw [hcapture] at hall
      refine ⟨nofun, fun _ => hstands.trans hlink, fun first others htrs => ?_⟩
      cases htrs
      refine ⟨fun h => absurd (.inl h) hfree, fun h => absurd (.inl h) hfree, fun h => absurd (.inr h) hfree,
        fun h => absurd h hfree, fun _ => ⟨hall.trans (by simp), fun hr => ?_⟩⟩
      exact State.told_captureMissed hrdy htells hepoch (hcapture ▸ hrecording) (hcapture ▸ hr) trs

end

/-- Settles O15: the triggers of the record, met by Capture Memory with the ring, the link and the queue it then finds. -/
theorem stepTriggersAnArmedRing : Obligations.StepTriggersAnArmedRing := by
  unfold Obligations.StepTriggersAnArmedRing
  intro s c hrdy hcompletes hmissed trs
  have hexec (order : List CompletionPart) :
      exec (.cycleCompletion order false hrdy) s = .next ((s.delivered c).takeParts hrdy order) :=
    exec_cycleCompletion_of_completes hcompletes order false hrdy
  have hdelivered : (s.delivered c).flight.steps = trs := s.delivered_steps c
  have hsteps (x : State) (hwaits : .steps ∈ x.flight.parts) (htrs : x.flight.steps = trs) : x.takePart hrdy .steps =
      ((x.without .steps).setFlight { (x.without .steps).flight with steps := [] }).takeTriggers hrdy trs := by
    rw [← htrs]
    exact State.takePart_of_waiting (s := x) (p := .steps) hwaits (fun q hq => absurd hq (by simp [mustFollow])) hrdy
  have hfirst := hsteps (s.delivered c) (by decide : .steps ∈ cycleParts) hdelivered
  have hmeets : s.triggeredBy hrdy trs ((s.delivered c).takePart hrdy .steps) := by
    rw [hfirst]
    refine State.triggeredBy_takeTriggers hrdy ?_ ?_ ?_ ?_ (State.tells_of_eq ?_) hmissed trs <;> rfl
  have hrecord (x : State) (hwaits : .entries ∈ x.flight.parts) :
      x.takePart hrdy .entries = (x.without .entries).takeRecord :=
    State.takePart_of_waiting (s := x) (p := .entries) hwaits (fun q hq => absurd hq (by simp [mustFollow])) hrdy
  have hleft : .entries ∈ ((s.delivered c).takePart hrdy .steps).flight.parts := by
    rw [hfirst, State.takeTriggers_flight]
    exact (by decide : .entries ∈ cycleParts.filter (· ≠ .steps))
  have hafter := hrecord _ hleft
  have htells : ((s.delivered c).takePart hrdy .steps).tells
      (((s.delivered c).takePart hrdy .steps).takePart hrdy .entries) := by
    rw [hafter]
    exact State.tells_takeRecord (((s.delivered c).takePart hrdy .steps).without .entries)
  have hbefore := hrecord (s.delivered c) (by decide : .entries ∈ cycleParts)
  refine ⟨fun order horder => ⟨_, hexec order, ?_⟩, ⟨_, _, hexec _, hexec _, ?_, htells.front⟩,
    fun order horder => ⟨_, hexec order, ?_⟩⟩
  · rcases List.mem_pair.mp horder with rfl | rfl
    · exact ⟨hdelivered, rfl⟩
    · show ((s.delivered c).takePart hrdy .entries).flight.steps = trs ∧
        ((s.delivered c).takePart hrdy .entries).capture = s.capture
      rw [hbefore, State.takeRecord_steps, State.takeRecord_capture]
      exact ⟨hdelivered, rfl⟩
  · show ((s.delivered c).takePart hrdy .steps).cond = s.cond
    rw [hfirst, State.takeTriggers_cond]
    rfl
  · simp only [List.mem_cons, List.not_mem_nil, or_false] at horder
    rcases horder with rfl | rfl | rfl
    · refine ⟨?_, hmeets⟩
      show ((s.delivered c).takePart hrdy .steps).flight.steps = []
      rw [hfirst, State.takeTriggers_flight]
      rfl
    · have hwaits : .steps ∈ ((s.delivered c).takePart hrdy .entries).flight.parts := by
        rw [hbefore, State.takeRecord_parts]
        exact (by decide : .steps ∈ cycleParts.filter (· ≠ .entries))
      have hlast := hsteps _ hwaits (by rw [hbefore, State.takeRecord_steps]; exact hdelivered)
      show (((s.delivered c).takePart hrdy .entries).takePart hrdy .steps).flight.steps = [] ∧
        s.triggeredBy hrdy trs (((s.delivered c).takePart hrdy .entries).takePart hrdy .steps)
      rw [hlast, State.takeTriggers_flight]
      refine ⟨rfl, State.triggeredBy_takeTriggers hrdy ?_ ?_ ?_ ?_ ?_ hmissed trs⟩ <;> rw [hbefore]
      · exact State.takeRecord_capture ((s.delivered c).without .entries)
      · exact State.takeRecord_link ((s.delivered c).without .entries)
      · exact State.takeRecord_store ((s.delivered c).without .entries)
      · exact State.runPart_epochNumber hrdy ((s.delivered c).without .entries) (p := .entries)
      · exact State.tells_takeRecord ((s.delivered c).without .entries)
    · have hcapture : (((s.delivered c).takePart hrdy .steps).takePart hrdy .entries).capture =
          ((s.delivered c).takePart hrdy .steps).capture := by
        rw [hafter, State.takeRecord_capture]
        rfl
      have hlink : (((s.delivered c).takePart hrdy .steps).takePart hrdy .entries).link =
          ((s.delivered c).takePart hrdy .steps).link := by
        rw [hafter, State.takeRecord_link]
        rfl
      refine ⟨?_, hmeets.of_tells hrdy hcapture hlink htells⟩
      show (((s.delivered c).takePart hrdy .steps).takePart hrdy .entries).flight.steps = []
      rw [hafter, State.takeRecord_steps, State.without_flight, hfirst, State.takeTriggers_flight]
      rfl

end Sys2Proof.Machine

namespace Sys2Proof.Machine

/-! ## No part is taken before one that it must follow -/

/-- Of the parts of `b`, none has been taken while one waits that it must follow. -/
def State.inTurn (b x : State) : Prop :=
  ∀ p ∈ b.flight.parts, ∀ q ∈ mustFollow p, q ∈ x.flight.parts → p ∈ x.flight.parts

theorem State.inTurn_refl (b : State) : b.inTurn b := fun _ hp _ _ _ => hp

theorem State.inTurn.runPart {b x : State} (h : b.inTurn x) {p : CompletionPart}
    (hfree : ∀ q ∈ mustFollow p, q ∉ x.flight.parts) (hrdy : Bool) : b.inTurn ((x.without p).runPart hrdy p) := by
  intro r hr q hq hwaits
  have hq' : q ∈ x.flight.parts := (State.mem_runPart.mp hwaits).1
  exact State.mem_runPart.mpr ⟨h r hr q hq hq', fun hrp : r = p => hfree q (hrp ▸ hq) hq'⟩

theorem State.takeNextStep_of_nil {s : State} (h : s.flight.steps = []) (hrdy : Bool) : s.takeNextStep hrdy = s := by
  rw [State.takeNextStep, h]

theorem State.takeNextLevel_of_nil {s : State} (h : s.flight.levels = []) (hrdy : Bool) : s.takeNextLevel hrdy = s := by
  have hnone : ascending s.flight.levels = [] := by
    rw [h]
    rfl
  rw [State.takeNextLevel, hnone]

/-! ## Without a trigger a completion reaches Capture Memory by its frame alone -/

section
variable (hrdy : Bool) {s : State}

theorem State.runPart_steps (hsteps : s.flight.steps = []) (p : CompletionPart) :
    (s.runPart hrdy p).flight.steps = [] := by
  cases p with
  | entries => exact s.takeRecord_steps.trans hsteps
  | nextEntry =>
    rw [State.runPart, State.takeNextEntry]
    split
    · rw [State.takeEntry_flight]
      exact hsteps
    all_goals exact hsteps
  | steps => simp [State.runPart]
  | nextStep => rw [State.runPart, State.takeNextStep_of_nil hsteps]; exact hsteps
  | frame => simp [State.runPart, hsteps]
  | count => simp [State.runPart, State.countCompletion_eq, hsteps]
  | start =>
    cases h : s.flight.given with
    | none => rw [State.runPart, State.startNext_of_none s h]; exact hsteps
    | some g => rw [State.runPart, State.startNext_of_some s h, State.startCycle_eq]; exact hsteps
  | current u => simp [State.runPart, hsteps]
  | thermal u =>
    simp only [State.runPart, State.stepThermal]
    repeat' split
    all_goals exact hsteps
  | grade u =>
    simp only [State.runPart, State.gradeSlot]
    repeat' split
    · rw [State.gradeOn_steps]
      exact hsteps
    all_goals exact hsteps
  | annunciate u => rw [State.runPart, State.hearChange_flight]; exact hsteps
  | levels => rw [State.runPart, State.takeTriggers_flight]; exact hsteps
  | nextLevel =>
    rcases s.takeNextLevel_cases hrdy with e | ⟨_, _, _, e⟩ <;> rw [State.runPart, e]
    · exact hsteps
    · rw [State.takeTriggers_flight]
      exact hsteps
  | settings => rw [State.runPart, State.takeEpoch_flight]; exact hsteps

/-- With LEVEL triggers disabled none is raised (R86). -/
theorem State.runPart_levels (hlevels : s.flight.levels = []) {p : CompletionPart}
    (hgrade : ∀ u, p = .grade u → s.applied.general.captureLevel = 0) : (s.runPart hrdy p).flight.levels = [] := by
  cases p with
  | entries =>
    rw [State.runPart, State.takeRecord]
    split
    · exact hlevels
    · simp [hlevels]
  | nextEntry =>
    rw [State.runPart, State.takeNextEntry]
    split
    · rw [State.takeEntry_flight]
      exact hlevels
    all_goals exact hlevels
  | steps => rw [State.runPart, State.takeTriggers_flight]; exact hlevels
  | nextStep =>
    rcases s.takeNextStep_cases hrdy with e | ⟨_, _, _, e⟩ <;> rw [State.runPart, e]
    · exact hlevels
    · rw [State.takeTriggers_flight]
      exact hlevels
  | frame => simp [State.runPart, hlevels]
  | count => simp [State.runPart, State.countCompletion_eq, hlevels]
  | start =>
    cases h : s.flight.given with
    | none => rw [State.runPart, State.startNext_of_none s h]; exact hlevels
    | some g => rw [State.runPart, State.startNext_of_some s h, State.startCycle_eq]; exact hlevels
  | current u => simp [State.runPart, hlevels]
  | thermal u =>
    simp only [State.runPart, State.stepThermal]
    repeat' split
    all_goals exact hlevels
  | grade u =>
    have hnone (old new : Level) : levelTriggers s.applied.general.captureLevel old new ≠ true := fun h =>
      (levelTriggers_iff.mp h).2.1 (hgrade u rfl)
    simp only [State.runPart, State.gradeSlot]
    repeat' split
    · rw [State.gradeOn_levels_eq, State.setFlight_flight]
      exact (congrArg (s.flight.levels ++ ·) (if_neg (hnone _ _))).trans (by rw [hlevels]; rfl)
    all_goals exact hlevels
  | annunciate u => rw [State.runPart, State.hearChange_flight]; exact hlevels
  | levels => rw [State.runPart, State.takeTriggers_flight]; rfl
  | nextLevel => rw [State.runPart, State.takeNextLevel_of_nil hlevels]; exact hlevels
  | settings => rw [State.runPart, State.takeEpoch_flight]; exact hlevels

/-- With no trigger waiting, a part but the frame leaves the link and Capture Memory but for its open frame. -/
theorem State.runPart_untriggered (hsteps : s.flight.steps = []) (hlevels : s.flight.levels = []) {p : CompletionPart}
    (hframe : p ≠ .frame) : (s.runPart hrdy p).link = s.link ∧ ∃ f, (s.runPart hrdy p).capture = { s.capture with current := f } := by
  cases p with
  | frame => exact absurd rfl hframe
  | steps => rw [State.runPart, hsteps]; exact ⟨rfl, _, rfl⟩
  | nextStep => rw [State.runPart, State.takeNextStep_of_nil hsteps]; exact ⟨rfl, _, rfl⟩
  | levels => rw [State.runPart, hlevels]; exact ⟨rfl, _, rfl⟩
  | nextLevel => rw [State.runPart, State.takeNextLevel_of_nil hlevels]; exact ⟨rfl, _, rfl⟩
  | start =>
    cases h : s.flight.given with
    | none => rw [State.runPart, State.startNext_of_none s h]; exact ⟨rfl, _, rfl⟩
    | some g => rw [State.runPart, State.startNext_of_some s h, State.startCycle_eq]; exact ⟨rfl, _, rfl⟩
  | _ => exact ⟨by simp [State.runPart], s.capture.current, by simp [State.runPart]⟩

/-- The open frame stands until it is completed or the next is opened. -/
theorem State.runPart_capture_untriggered (hsteps : s.flight.steps = []) (hlevels : s.flight.levels = [])
    {p : CompletionPart} (hframe : p ≠ .frame) (hstart : p ≠ .start) : (s.runPart hrdy p).capture = s.capture := by
  obtain ⟨-, f, hcapture⟩ := State.runPart_untriggered hrdy hsteps hlevels hframe
  have hcurrent := State.runPart_current hrdy s hframe hstart
  rw [hcapture] at hcurrent ⊢
  have hf : f = s.capture.current := hcurrent
  rw [hf]

end

/-- Since `b` no trigger has fallen: its frame waits with Capture Memory and the link as they stood, or has been taken,
after which `Q` holds. -/
structure State.framing (b : State) (Q : State → Prop) (x : State) : Prop where
  parts : ∀ p ∈ x.flight.parts, p ∈ b.flight.parts
  turn : b.inTurn x
  epoch : x.cond.epochNumber = b.cond.epochNumber
  tells : b.tells x
  steps : x.flight.steps = []
  levels : x.flight.levels = []
  store : .settings ∈ x.flight.parts → x.store = b.store
  before : .frame ∈ x.flight.parts → x.capture = b.capture ∧ x.link = b.link
  after : .frame ∉ x.flight.parts → Q x

theorem State.framing_refl {b : State} {Q : State → Prop} (hframe : .frame ∈ b.flight.parts) (hsteps : b.flight.steps = [])
    (hlevels : b.flight.levels = []) : b.framing Q b :=
  ⟨fun _ h => h, b.inTurn_refl, rfl, State.tells_of_eq rfl, hsteps, hlevels, fun _ => rfl, fun _ => ⟨rfl, rfl⟩,
    fun h => absurd hframe h⟩

theorem State.framing.runPart {b x : State} {Q : State → Prop} {hrdy : Bool} (h : b.framing Q x)
    (hgrades : ∀ u, .grade u ∈ b.flight.parts → .annunciate u ∈ b.flight.parts ∧ .settings ∈ b.flight.parts ∧
      b.applied.general.captureLevel = 0)
    (htaken : ∀ y : State, y.capture = b.capture → y.link = b.link → y.cond.epochNumber = b.cond.epochNumber → b.tells y →
      Q (y.takeFrame hrdy))
    (hstands : ∀ y z : State, Q y → z.link = y.link → (∃ f, z.capture = { y.capture with current := f }) → y.tells z → Q z)
    {p : CompletionPart} (hwaits : waitsAs p ∈ x.flight.parts) (hfree : ∀ q ∈ mustFollow p, q ∉ x.flight.parts) :
    b.framing Q ((x.without p).runPart hrdy p) := by
  have hstays (q : CompletionPart) (hq : q ≠ p) :
      q ∈ ((x.without p).runPart hrdy p).flight.parts ↔ q ∈ x.flight.parts :=
    State.mem_runPart.trans (and_iff_left hq)
  have hgone : p ∉ ((x.without p).runPart hrdy p).flight.parts := fun h => (State.mem_runPart.mp h).2 rfl
  have hset : .settings ∈ ((x.without p).runPart hrdy p).flight.parts → p ≠ .settings := fun h hp => hgone (hp ▸ h)
  have hframes : p = .frame → .frame ∈ x.flight.parts := fun hp => by
    subst hp
    exact hwaits
  have htells := State.tells_runPart (x.without p) hrdy p
  have hturn := h.turn.runPart hfree hrdy
  obtain ⟨parts, turn, epoch, tells, steps, levels, store, before, after⟩ := h
  refine ⟨fun q hq => ?_, hturn, (State.runPart_epochNumber ..).trans epoch, tells.trans htells,
    State.runPart_steps hrdy (s := x.without p) steps p, State.runPart_levels hrdy (s := x.without p) levels (fun u hu => ?_),
    fun hq => ?_, fun hq => ?_, fun hq => ?_⟩
  · exact parts q (State.mem_runPart.mp hq).1
  · subst hu
    obtain ⟨hannunciate, hsettings, hlevel⟩ := hgrades u (parts _ hwaits)
    have hx : .settings ∈ x.flight.parts := by
      have hmove : CompletionPart.annunciate u ∈ x.flight.parts := turn _ hannunciate (.grade u) (by simp [mustFollow]) hwaits
      exact turn _ hsettings (.annunciate u) (by simp [mustFollow]) hmove
    rw [State.applied, State.without_store, store hx]
    exact hlevel
  · rw [State.runPart_store_of_ne hrdy _ (hset hq)]
    exact store ((hstays _ (Ne.symm (hset hq))).mp hq)
  · have hframe : p ≠ .frame := fun hp => hgone (hp ▸ hq)
    have hx : .frame ∈ x.flight.parts := (hstays _ (Ne.symm hframe)).mp hq
    have hstart : p ≠ .start := by
      rintro rfl
      exact hfree .frame (by simp [mustFollow]) hx
    obtain ⟨hcapture, hlink⟩ := before hx
    obtain ⟨hlinks, -⟩ := State.runPart_untriggered hrdy (s := x.without p) steps levels hframe
    exact ⟨(State.runPart_capture_untriggered hrdy (s := x.without p) steps levels hframe hstart).trans hcapture,
      hlinks.trans hlink⟩
  · by_cases hframe : p = .frame
    · subst hframe
      obtain ⟨hcapture, hlink⟩ := before hwaits
      exact htaken (x.without .frame) hcapture hlink epoch (tells.trans (State.tells_of_eq rfl))
    · obtain ⟨hlink, hcapture⟩ := State.runPart_untriggered hrdy (s := x.without p) steps levels hframe
      exact hstands x _ (after ((hstays _ (Ne.symm hframe)).not.mp hq)) hlink hcapture htells

/-! ## Where the completed frame goes (R116 to R118) -/

theorem State.takesFrame.of_tells {b x y : State} {f : OpenFrame} (h : b.takesFrame x f) (hlink : y.link = x.link)
    (hcapture : ∃ g, y.capture = { x.capture with current := g }) (htells : x.tells y) : b.takesFrame y f := by
  obtain ⟨g, hcapture⟩ := hcapture
  obtain ⟨hrecord, hdepth, hkept, hmissed, hlinks, hdropped, hroom, hfull, hrecording, hmore, hlast⟩ := h
  rw [State.takesFrame, hcapture, hlink]
  exact ⟨hrecord, hdepth, hkept, hmissed, hlinks, hdropped, hroom, hfull, hrecording, hmore, fun hf hstate hpost =>
    (hlast hf hstate hpost).imp_right fun h r hr => (h r hr).tells htells⟩

/-- Capture Memory takes the completed frame by its state. -/
theorem State.takesFrame_takeFrame {b x : State} {f : OpenFrame} (hcurrent : b.capture.current = some f)
    (hhold : b.capture.holdPending = false) (hcapture : x.capture = b.capture) (hlink : x.link = b.link)
    (hepoch : x.cond.epochNumber = b.cond.epochNumber) (htells : b.tells x) (hrdy : Bool) :
    b.takesFrame (x.takeFrame hrdy) f := by
  have htake := State.takeFrame_of_no_hold (s := x) (by rw [hcapture]; exact hhold) hrdy
  rw [hcapture] at htake
  have hmemory : (x.takeFrame hrdy).capture = b.capture.takeFrame := by
    rw [htake, State.notifyAll_capture]
    rfl
  have hlinks : (x.takeFrame hrdy).link = b.link := by
    rw [htake, State.notifyAll_link]
    exact hlink
  have htold {n : NoticeBody} (hn : n ∈ frozenNotice b.capture b.capture.takeFrame) : b.told (x.takeFrame hrdy) n := by
    rw [htake]
    exact State.told_notifyAll (u := x.setCapture b.capture.takeFrame) _ htells.front hepoch hn
  rw [State.takesFrame, hlinks, hmemory]
  rcases b.capture.takeFrame_cases with ⟨hnone, -⟩ | ⟨g, hg, hcases⟩
  · exact absurd (hcurrent.symm.trans hnone) nofun
  obtain rfl : f = g := Option.some.inj (hcurrent.symm.trans hg)
  rcases hcases with ⟨hkept, e⟩ | ⟨hkept, hstate, e⟩ | ⟨hkept, hstate, e⟩ | ⟨hkept, hstate, e⟩
  · have hno {P : Prop} (h : f.kept = true) : P := absurd (hkept.symm.trans h) nofun
    rw [e]
    exact ⟨rfl, rfl, rfl, rfl, rfl, fun _ => ⟨rfl, rfl, rfl⟩, hno, hno, hno, hno, hno⟩
  · rw [e]
    have hno {P : Prop} (h : b.capture.state = .triggered) : P := absurd (hstate.symm.trans h) nofun
    refine ⟨rfl, rfl, rfl, rfl, rfl, fun h => ?_, fun _ _ hroom => ⟨?_, hstate⟩, fun _ _ hfull => ⟨?_, hstate⟩,
      fun _ => hno, fun _ => hno, fun _ => hno⟩
    · simp [hkept, hstate] at h
    · have hdrop : (b.capture.ring ++ [f.frame]).length - 48 = 0 := by
        rw [List.length_append, List.length_singleton]
        omega
      show (b.capture.ring ++ [f.frame]).drop ((b.capture.ring ++ [f.frame]).length - 48) = _
      rw [hdrop, List.drop_zero]
    · have hne : b.capture.ring ≠ [] := fun h => by simp [h] at hfull
      have hdrop : (b.capture.ring ++ [f.frame]).length - 48 = 1 := by
        rw [List.length_append, List.length_singleton, hfull]
      show (b.capture.ring ++ [f.frame]).drop ((b.capture.ring ++ [f.frame]).length - 48) = _
      rw [hdrop, List.drop_one, List.tail_append_of_ne_nil hne]
  · have hno {P : Prop} (h : b.capture.state = .armed) : P := absurd (hstate.symm.trans h) nofun
    refine ⟨?_, ?_, ?_, ?_, rfl, fun h => ?_, fun _ => hno, fun _ => hno, fun _ _ => ?_, fun _ _ hmore => ?_,
      fun _ _ hlast => ?_⟩
    · rw [e]; rfl
    · rw [e]; rfl
    · rw [e]; rfl
    · rw [e]; rfl
    · simp [hkept, hstate] at h
    · rw [e]; exact ⟨rfl, rfl⟩
    · rw [e]; exact if_neg (show b.capture.post - 1 ≠ 0 by omega)
    · have hfrozen : b.capture.takeFrame.state = .frozen := by
        rw [e]
        exact if_pos (show b.capture.post - 1 = 0 by omega)
      refine ⟨hfrozen, fun r hr => htold ?_⟩
      have hrecord : b.capture.takeFrame.record = some r := by rw [e]; exact hr
      rw [frozenNotice, if_pos ⟨hstate, hfrozen⟩, hrecord]
      exact List.mem_singleton_self _
  · rw [e]
    have hno {P : Prop} {st : CaptureState} (hst : st ≠ .held ∧ st ≠ .frozen) (h : b.capture.state = st) : P :=
      absurd h (hstate.elim (fun e h => hst.1 (h.symm.trans e)) fun e h => hst.2 (h.symm.trans e))
    exact ⟨rfl, rfl, rfl, rfl, rfl, fun _ => ⟨rfl, rfl, rfl⟩, fun _ => hno (by decide), fun _ => hno (by decide),
      fun _ => hno (by decide), fun _ => hno (by decide), fun _ => hno (by decide)⟩

end Sys2Proof.Machine

namespace Sys2Proof.Machine

/-! ## An epoch completion and its parts (R25) -/

theorem State.raiseEpoch_parts (s : State) : s.raiseEpoch.flight.parts = s.flight.parts ++ epochParts := rfl

theorem State.raiseEpoch_epochNumber (s : State) : s.raiseEpoch.cond.epochNumber = s.cond.epochNumber + 1 := by
  have hnumber (n : Nat) (c : Conditioner) : (c.autoCheck n).epochNumber = c.epochNumber := by
    rw [Conditioner.autoCheck_eq]
  exact congrArg (· + 1) (hnumber _ _)

/-- Every part that waits at an epoch completion is one of a cycle completion or one of an epoch completion. -/
theorem State.raiseEpoch_mem {s : State} (h : s.epochCompletes) {p : CompletionPart} (hp : p ∈ s.raiseEpoch.flight.parts) :
    p ∈ cycleParts ++ epochParts := by
  obtain ⟨-, -, -, -, -, hparts⟩ := h
  rw [State.raiseEpoch_parts, List.mem_append] at hp
  refine hp.elim (fun hp => List.mem_append_left _ ?_) fun hp => List.mem_append_right _ hp
  rcases hparts p hp with rfl | rfl | rfl | rfl <;> decide

/-- A whole epoch completion takes every part. -/
theorem exec_epochCompletion_whole {s : State} (h : s.epochCompletes) (order : List CompletionPart) (hrdy : Bool) :
    ∃ ps, exec (.epochCompletion order true hrdy) s = .next (s.raiseEpoch.takeParts hrdy ps) ∧
      (s.raiseEpoch.takeParts hrdy ps).flight.parts = [] := by
  refine ⟨order ++ (cycleParts ++ epochParts), (exec_epochCompletion_of_completes h order true hrdy).trans ?_, ?_⟩
  · rw [State.takeParts_append]
    rfl
  · rw [State.takeParts_append]
    exact State.takeParts_all hrdy inOrder_epochParts fun p hp => State.raiseEpoch_mem h (State.takeParts_parts hrdy _ hp)

/-! ## The completed frame of a whole completion -/

theorem State.stepsOf_of_unwatched {s : State} (h : s.unwatched) (c : Cycle) : s.stepsOf c = [] := by
  have hnone (x : ChannelSums) : s.stepsAt x = false := by
    rw [State.stepsAt]
    cases (s.cond.channels.get x.chan).lastValid with
    | none => rfl
    | some mq => exact decide_eq_false fun hsteps => hsteps.2.2.2.1 (h x.chan)
  rw [State.stepsOf, List.filter_eq_nil_iff.mpr fun x _ => Bool.eq_false_iff.mp (hnone x), List.map_nil]

/-- With no channel watched, what the frame alone leaves is what the completion leaves of Capture Memory and the link. -/
theorem State.framing_delivered {s : State} {c : Cycle} {Q : State → Prop} {hrdy : Bool} (hunwatched : s.unwatched)
    (htaken : ∀ y : State, y.capture = s.capture → y.link = s.link → y.cond.epochNumber = s.cond.epochNumber → s.tells y →
      Q (y.takeFrame hrdy))
    (hstands : ∀ y z : State, Q y → z.link = y.link → (∃ f, z.capture = { y.capture with current := f }) → y.tells z → Q z)
    (ps : List CompletionPart) : (s.delivered c).framing Q ((s.delivered c).takeParts hrdy ps) := by
  have hsteps : (s.delivered c).flight.steps = [] := (s.delivered_steps c).trans (State.stepsOf_of_unwatched hunwatched c)
  have hgrades (u : Fin 8) (hu : .grade u ∈ (s.delivered c).flight.parts) : False := by
    revert u
    exact (by decide : ∀ u : Fin 8, .grade u ∈ cycleParts → False)
  exact State.takeParts_keeps (P := (s.delivered c).framing Q)
    (fun x p hx => hx.runPart (fun u hu => (hgrades u hu).elim) htaken hstands) ps _
    (State.framing_refl (by decide : .frame ∈ cycleParts) hsteps rfl)

/-- Settles O13: no trigger falls, so that Capture Memory stands until it takes the frame, and is then reached no more. -/
theorem completedFrameByCaptureState : Obligations.CompletedFrameByCaptureState := by
  unfold Obligations.CompletedFrameByCaptureState
  refine ⟨fun s c f order hrdy hcompletes hend hunwatched hcurrent hhold => ?_,
    fun s f order hrdy hcompletes hframe hsteps hlevel hcurrent hhold => ?_⟩
  · obtain ⟨ps, hexec, hparts⟩ := exec_cycleCompletion_whole hcompletes hend order hrdy
    have hframed := State.framing_delivered (s := s) (c := c) (Q := fun x => s.takesFrame x f) (hrdy := hrdy) hunwatched
      (fun y hcapture hlink hepoch htells =>
        State.takesFrame_takeFrame hcurrent hhold hcapture hlink hepoch htells hrdy)
      (fun y z hy hlink hcapture htells => hy.of_tells hlink hcapture htells) ps
    exact ⟨_, hexec, hframed.after (by simp [hparts])⟩
  · have ⟨_, _, hlevels, _⟩ := hcompletes
    obtain ⟨ps, hexec, hparts⟩ := exec_epochCompletion_whole hcompletes order hrdy
    have hgrades (u : Fin 8) : .annunciate u ∈ s.raiseEpoch.flight.parts ∧ .settings ∈ s.raiseEpoch.flight.parts ∧
        s.raiseEpoch.applied.general.captureLevel = 0 := by
      have hin : .annunciate u ∈ epochParts := by
        revert u
        decide
      exact ⟨List.mem_append_right _ hin, List.mem_append_right _ (by decide), hlevel⟩
    have hframed := State.takeParts_keeps (P := s.raiseEpoch.framing fun x => s.nextEpoch.takesFrame x f) (hrdy := hrdy)
      (fun x p hx => hx.runPart (fun u _ => hgrades u)
        (fun y hcapture hlink hepoch htells => State.takesFrame_takeFrame (b := s.nextEpoch) hcurrent hhold hcapture hlink
          (hepoch.trans s.raiseEpoch_epochNumber) htells hrdy)
        (fun y z hy hlink hcapture htells => hy.of_tells hlink hcapture htells))
      ps s.raiseEpoch (State.framing_refl (List.mem_append_left _ hframe) hsteps hlevels)
    exact ⟨_, hexec, hframed.after (by simp [hparts])⟩

/-! ## The grant of a pending hold (R126) -/

/-- In ARMED a completed frame that is kept becomes the newest of the ring (R116). -/
theorem Capture.takeFrame_of_armed {c : Capture} (h : c.state = .armed) : c.takeFrame = { c with
    current := none
    ring := match c.current with
      | some f => if f.kept then (c.ring ++ [f.frame]).drop (c.ring.length + 1 - 48) else c.ring
      | none => c.ring } := by
  rcases c.takeFrame_cases with ⟨hnone, e⟩ | ⟨f, hf, hcases⟩
  · rw [e, hnone]
    cases c
    cases hnone
    rfl
  · rw [hf]
    rcases hcases with ⟨hkept, e⟩ | ⟨hkept, -, e⟩ | ⟨-, hstate, -⟩ | ⟨-, hstate, -⟩
    · simp [e, hkept]
    · simp [e, hkept, Capture.write, newest]
    · exact absurd (h.symm.trans hstate) nofun
    · exact hstate.elim (fun hstate => absurd (h.symm.trans hstate) nofun) fun hstate => absurd (h.symm.trans hstate) nofun

theorem State.takeFrame_of_pending {s : State} {r : Service} (hhold : s.capture.holdPending = true)
    (hstate : s.capture.state = .armed) (hr : s.link.service = some r) (hrdy : Bool) :
    s.takeFrame hrdy = (s.setCapture { s.capture.takeFrame with state := .held, holdPending := false }).replied
      r.kind r.tag r.payload .answered .done [] hrdy := by
  have hquiet : frozenNotice s.capture s.capture.takeFrame = [] := by
    have hother : s.capture.state ≠ .triggered := by
      rw [hstate]
      nofun
    exact if_neg fun h => hother h.1
  rw [State.takeFrame, Capture.takeFrame_holdPending, hhold, hquiet]
  exact State.answerTo_eq (s.setCapture { s.capture.takeFrame with state := .held, holdPending := false })
    r.kind r.tag r.payload r.stage .answered .done [] hrdy hr

/-- R126, R160: since `s` the pending hold of `r` has been granted, after the completed frame. -/
structure State.grantsHold (s : State) (r : Service) (t : State) : Prop where
  state : t.capture.state = .held
  hold : t.capture.holdPending = false
  service : t.link.service = some { r with stage := .answered }
  reply : t.link.tx = .waitHrdy { kind := r.kind ||| 0x80, tag := r.tag, status := .done, body := [] }
  ring : t.capture.ring = s.capture.takeFrame.ring

theorem State.grantsHold_takeFrame {s y : State} {r : Service} (hhold : s.capture.holdPending = true)
    (hstate : s.capture.state = .armed) (hr : s.link.service = some r) (hcapture : y.capture = s.capture)
    (hlink : y.link = s.link) : s.grantsHold r (y.takeFrame false) := by
  rw [State.takeFrame_of_pending (r := r) (by rw [hcapture]; exact hhold) (by rw [hcapture]; exact hstate)
    (by rw [hlink]; exact hr)]
  exact ⟨rfl, rfl, rfl, rfl, by rw [← hcapture]; rfl⟩

theorem State.grantsHold.of_eq {s y z : State} {r : Service} (h : s.grantsHold r y) (hlink : z.link = y.link)
    (hcapture : ∃ f, z.capture = { y.capture with current := f }) : s.grantsHold r z := by
  obtain ⟨f, hcapture⟩ := hcapture
  obtain ⟨state, hold, service, reply, ring⟩ := h
  exact ⟨by rw [hcapture]; exact state, by rw [hcapture]; exact hold, by rw [hlink]; exact service,
    by rw [hlink]; exact reply, by rw [hcapture]; exact ring⟩

/-- Settles O14: with no trigger the hold pends until the frame is taken, which grants it. -/
theorem pendingHoldIsGranted : Obligations.PendingHoldIsGranted := by
  unfold Obligations.PendingHoldIsGranted
  refine ⟨fun s c r order hcompletes hend hunwatched hhold hstate hr => ?_, fun s c r hrdy hcompletes hhold hstate hr => ?_⟩
  · obtain ⟨ps, hexec, hparts⟩ := exec_cycleCompletion_whole hcompletes hend order false
    have hframed := State.framing_delivered (s := s) (c := c) (Q := fun x => s.grantsHold r x) hunwatched
      (fun y hcapture hlink _ _ => State.grantsHold_takeFrame hhold hstate hr hcapture hlink)
      (fun y z hy hlink hcapture _ => hy.of_eq hlink hcapture) ps
    obtain ⟨hheld, hno, hservice, hreply, hring⟩ := hframed.after (by simp [hparts])
    rw [Capture.takeFrame_of_armed hstate] at hring
    refine ⟨_, hexec, hheld, hno, hservice, hreply, fun f hf hkept hroom => ?_, fun f hf hkept hfull => ?_, fun hdropped => ?_⟩
    · have hdrop : s.capture.ring.length + 1 - 48 = 0 := by omega
      simpa [hf, hkept, hdrop] using hring
    · have hne : s.capture.ring ≠ [] := fun h => by simp [h] at hfull
      have hdrop : s.capture.ring.length + 1 - 48 = 1 := by omega
      simpa [hf, hkept, hdrop, List.tail_append_of_ne_nil hne] using hring
    · cases hf : s.capture.current with
      | none => simpa [hf] using hring
      | some f => simpa [hf, hdropped f hf] using hring
  · have hexec : exec (.cycleCompletion [.frame] false hrdy) s = .next (((s.delivered c).without .frame).takeFrame hrdy) :=
      (exec_cycleCompletion_of_completes hcompletes [.frame] false hrdy).trans
        (congrArg Host.Outcome.next (State.takePart_of_waiting (s := s.delivered c) (p := .frame)
          (by decide : .frame ∈ cycleParts) (fun q hq => absurd hq (by simp [mustFollow])) hrdy))
    have hgrant := State.takeFrame_of_pending (s := (s.delivered c).without .frame) (r := r) hhold hstate hr hrdy
    have hframe : ((s.delivered c).without .frame).capture.takeFrame = s.capture.takeFrame := rfl
    have ⟨_, _, _, _, _, hflight, _⟩ := hcompletes
    rw [hframe, Capture.takeFrame_of_armed hstate] at hgrant
    have hwithout : (s.delivered c).without .frame = s.setFlight { s.flight with
        parts := [.entries, .steps, .count, .start], entries := c.sums, steps := s.stepsOf c } := by
      rw [← s.delivered_steps c, hflight]
      rfl
    rw [hexec, hgrant, hwithout]
    rfl

end Sys2Proof.Machine

namespace Sys2Proof.Machine

/-! ## The chain of a slot at an epoch completion (R43, R57, R71, R85) -/

/-- The effective current that slot `u` gets at the epoch completion raised in `b` (R43). -/
def State.chainCurrent (b : State) (u : Fin 8) : SlotCurrent :=
  slotCurrent b.cond.channels (b.applied.transformers.get u).terms

/-- The thermal record that slot `u` gets (R57). -/
def State.chainThermal (b : State) (u : Fin 8) : Thermal :=
  (b.slots.get u).thermal.step (b.applied.transformers.get u) (b.applied.curves.get u) (b.chainCurrent u).ieff.natAbs

/-- The grading that slot `u` gets (R71). -/
def State.chainGrade (b : State) (u : Fin 8) : Grade :=
  (b.slots.get u).grade.evaluate (b.applied.monitors.get u) (b.chainCurrent u).ieff.natAbs (b.chainThermal u).rise
    (b.chainThermal u).exposure

/-- The annunciation record that slot `u` gets (R85). -/
def State.chainSignal (b : State) (u : Fin 8) : Signal :=
  if (b.chainGrade u).level = (b.slots.get u).grade.level then (b.slots.get u).signal
  else ((b.slots.get u).signal.levelChange b.applied.general.annunciateAt (b.slots.get u).grade.level
    (b.chainGrade u).level).1

/-- The values that its thermal step hands to the grading of slot `u` (R64). -/
def State.chainHanded (b : State) (u : Fin 8) : Handed :=
  { slot := u, ieff := (b.chainCurrent u).ieff, rise := (b.chainThermal u).rise, exposure := (b.chainThermal u).exposure }

/-- The change that its grading hands to the Annunciator, if any (R85). -/
def State.chainChange (b : State) (u : Fin 8) : Option LevelChange :=
  if (b.chainGrade u).level = (b.slots.get u).grade.level then none
  else some { slot := u, old := (b.slots.get u).grade.level, new := (b.chainGrade u).level }

/-- Since `b` each part of the chain of slot `u` that waits no more has been taken once, on what `b` gives. -/
structure State.chainAt (b : State) (u : Fin 8) (x : State) : Prop where
  slot : x.slots.get u = {
    cur := if .current u ∈ x.flight.parts then (b.slots.get u).cur else b.chainCurrent u
    thermal := if .thermal u ∈ x.flight.parts then (b.slots.get u).thermal else b.chainThermal u
    grade := if .grade u ∈ x.flight.parts then (b.slots.get u).grade else b.chainGrade u
    signal := if .annunciate u ∈ x.flight.parts then (b.slots.get u).signal else b.chainSignal u }
  handed : x.flight.handedTo u =
    if .thermal u ∈ x.flight.parts ∨ .grade u ∉ x.flight.parts then none else some (b.chainHanded u)
  change : x.flight.changeOf u =
    if .grade u ∈ x.flight.parts ∨ .annunciate u ∉ x.flight.parts then none else b.chainChange u

/-! ### What one part does to the chain of a slot -/

section
variable (hrdy : Bool) {s : State}

theorem Flight.handedTo_congr {f g : Flight} (h : g.handed = f.handed) (u : Fin 8) : g.handedTo u = f.handedTo u := by
  rw [Flight.handedTo, Flight.handedTo, h]

theorem Flight.changeOf_congr {f g : Flight} (h : g.changes = f.changes) (u : Fin 8) : g.changeOf u = f.changeOf u := by
  rw [Flight.changeOf, Flight.changeOf, h]

theorem Flight.handedTo_append (f : Flight) (h : Handed) (u : Fin 8) :
    Flight.handedTo { f with handed := f.handed ++ [h] } u =
      (f.handedTo u).or (if h.slot = u then some h else Option.none) := by
  by_cases hu : h.slot = u <;> simp [Flight.handedTo, List.find?_append, hu]

theorem Flight.handedTo_filter_ne {f : Flight} {u v : Fin 8} (huv : v ≠ u) :
    Flight.handedTo { f with handed := f.handed.filter fun h => h.slot ≠ u } v = f.handedTo v := by
  simp only [Flight.handedTo, List.find?_filter]
  refine List.find?_congr fun h _ => ?_
  by_cases hv : h.slot = v
  · simp [hv, huv]
  · simp [hv]

theorem Flight.handedTo_filter_self (f : Flight) (u : Fin 8) :
    Flight.handedTo { f with handed := f.handed.filter fun h => h.slot ≠ u } u = Option.none := by
  simp [Flight.handedTo, List.find?_eq_none]

/-- The thermal step of a defined slot (R57, R64). -/
theorem State.stepThermal_of_defined {u : Fin 8} (hdefined : s.isDefined u = true) :
    (s.stepThermal u).slots = s.slots.set u { s.slots.get u with thermal := s.thermalAfter u } ∧
    (s.stepThermal u).flight = { s.flight with handed := s.flight.handed ++
      [{ slot := u, ieff := (s.slots.get u).cur.ieff, rise := (s.thermalAfter u).rise
         exposure := (s.thermalAfter u).exposure }] } := by
  rw [State.stepThermal, if_pos hdefined]
  dsimp only
  split <;> exact ⟨rfl, rfl⟩

theorem State.stepThermal_of_undefined {u : Fin 8} (hdefined : s.isDefined u = false) : s.stepThermal u = s := by
  rw [State.stepThermal, if_neg (Bool.eq_false_iff.mp hdefined)]

/-- The grading of a slot leaves what another holds of the grading (R71). -/
theorem State.gradeSlot_other {u v : Fin 8} (huv : v ≠ u) : (s.gradeSlot u).slots.get v = s.slots.get v ∧
    (s.gradeSlot u).flight.handedTo v = s.flight.handedTo v ∧ (s.gradeSlot u).flight.changeOf v = s.flight.changeOf v := by
  have hstands : (s.setFlight { s.flight with handed := s.flight.handed.filter fun h => h.slot ≠ u }).flight.handedTo v =
      s.flight.handedTo v := Flight.handedTo_filter_ne huv
  unfold State.gradeSlot
  dsimp only
  split
  · next h _ =>
    split
    · refine ⟨?_, (Flight.handedTo_congr (State.gradeOn_handed ..) v).trans hstands, ?_⟩
      · rw [State.gradeOn_slots, Table.get_set_ne _ _ huv]
        rfl
      · rw [Flight.changeOf, State.gradeOn_changes_eq, List.find?_append]
        split
        · rw [List.find?_nil, Option.or_none]
          rfl
        · simp [Flight.changeOf, Ne.symm huv]
    · exact ⟨rfl, hstands, rfl⟩
  · exact ⟨rfl, hstands, rfl⟩

theorem State.gradeSlot_of_handed {u : Fin 8} {h : Handed} (hdefined : s.isDefined u = true)
    (hhanded : s.flight.handedTo u = some h) (hno : s.flight.changeOf u = none) :
    (s.gradeSlot u).slots.get u = { s.slots.get u with grade := s.gradeAfter u h } ∧
    (s.gradeSlot u).flight.handedTo u = none ∧
    (s.gradeSlot u).flight.changeOf u = if (s.gradeAfter u h).level = (s.slots.get u).grade.level then none
      else some { slot := u, old := (s.slots.get u).grade.level, new := (s.gradeAfter u h).level } := by
  have hgrade : s.gradeSlot u =
      (s.setFlight { s.flight with handed := s.flight.handed.filter fun h => h.slot ≠ u }).gradeOn u h := by
    rw [State.gradeSlot, hhanded]
    exact if_pos hdefined
  rw [hgrade]
  refine ⟨?_, (Flight.handedTo_congr (State.gradeOn_handed ..) u).trans (s.flight.handedTo_filter_self u), ?_⟩
  · rw [State.gradeOn_slots, Table.get_set_self]
    rfl
  · have hnone : s.flight.changes.find? (fun h => decide (h.slot = u)) = none := hno
    rw [Flight.changeOf, State.gradeOn_changes_eq, State.setFlight_flight, List.find?_append, hnone]
    show Option.or none (List.find? _ (if (s.gradeAfter u h).level = (s.slots.get u).grade.level then [] else _)) = _
    split
    · rfl
    · exact Option.none_or.trans (List.find?_cons_of_pos (decide_eq_true rfl))

/-- A part that is none of a slot's chain leaves the slot and what waits for it. -/
theorem State.runPart_otherSlot {p : CompletionPart} {u : Fin 8} (hseal : s.store.isSealed = false)
    (hcurrent : p ≠ .current u) (hthermal : p ≠ .thermal u) (hgrade : p ≠ .grade u) (hannunciate : p ≠ .annunciate u) :
    (s.runPart hrdy p).slots.get u = s.slots.get u ∧
    (s.runPart hrdy p).flight.handedTo u = s.flight.handedTo u ∧
    (s.runPart hrdy p).flight.changeOf u = s.flight.changeOf u := by
  have hother (t : State) (hslots : t.slots.get u = s.slots.get u) (hhanded : t.flight.handed = s.flight.handed)
      (hchanges : t.flight.changes = s.flight.changes) : t.slots.get u = s.slots.get u ∧
        t.flight.handedTo u = s.flight.handedTo u ∧ t.flight.changeOf u = s.flight.changeOf u :=
    ⟨hslots, Flight.handedTo_congr hhanded u, Flight.changeOf_congr hchanges u⟩
  cases p with
  | settings => rw [State.runPart, State.takeEpoch_of_unsealed hseal]; exact ⟨rfl, rfl, rfl⟩
  | current v =>
    have hv : u ≠ v := fun h => hcurrent (h ▸ rfl)
    refine hother _ ?_ (by simp [State.runPart]) (by simp [State.runPart])
    rw [State.runPart, State.formCurrent]
    split
    · exact Table.get_modify_ne _ _ hv
    · rfl
  | thermal v =>
    have hv : u ≠ v := fun h => hthermal (h ▸ rfl)
    cases hdefined : s.isDefined v with
    | false => rw [State.runPart, State.stepThermal_of_undefined hdefined]; exact ⟨rfl, rfl, rfl⟩
    | true =>
      obtain ⟨hslots, hflight⟩ := State.stepThermal_of_defined hdefined
      rw [State.runPart, hslots, hflight, Table.get_set_ne _ _ hv, Flight.handedTo_append, if_neg (Ne.symm hv),
        Option.or_none]
      exact ⟨rfl, rfl, rfl⟩
  | grade v => exact State.gradeSlot_other fun h => hgrade (h ▸ rfl)
  | annunciate v =>
    have hv : u ≠ v := fun h => hannunciate (h ▸ rfl)
    obtain ⟨-, hslots, -⟩ := s.hearChange_frame v
    rw [State.runPart, hslots, State.hearChange_flight, Table.get_set_ne _ _ hv]
    exact ⟨rfl, rfl, Flight.changeOf_filter hv⟩
  | entries =>
    refine hother _ (by simp [State.runPart]) ?_ (State.runPart_changes (by simp) (by simp))
    rw [State.runPart, State.takeRecord]
    split <;> simp
  | nextEntry =>
    refine hother _ (by simp [State.runPart]) ?_ (State.runPart_changes (by simp) (by simp))
    rw [State.runPart, State.takeNextEntry]
    split <;> simp
  | nextStep =>
    rcases s.takeNextStep_cases hrdy with e | ⟨_, _, _, e⟩ <;> rw [State.runPart, e]
    · exact ⟨rfl, rfl, rfl⟩
    · exact hother _ (by simp) (by simp) (by simp)
  | nextLevel =>
    rcases s.takeNextLevel_cases hrdy with e | ⟨_, _, _, e⟩ <;> rw [State.runPart, e]
    · exact ⟨rfl, rfl, rfl⟩
    · exact hother _ (by simp) (by simp) (by simp)
  | start =>
    cases h : s.flight.given with
    | none => rw [State.runPart, State.startNext_of_none s h]; exact ⟨rfl, rfl, rfl⟩
    | some g => rw [State.runPart, State.startNext_of_some s h, State.startCycle_eq]; exact ⟨rfl, rfl, rfl⟩
  | count =>
    have hflight : s.countCompletion.flight.handed = s.flight.handed := by simp [State.countCompletion_eq]
    exact hother s.countCompletion (by simp) hflight (State.runPart_changes (hrdy := hrdy) (p := .count) (by simp) (by simp))
  | steps | frame | levels => refine hother _ ?_ ?_ ?_ <;> simp [State.runPart]

end

theorem State.chainAt_refl {b : State} (hhanded : b.flight.handed = []) (hchanges : b.flight.changes = []) {u : Fin 8}
    (hcurrent : .current u ∈ b.flight.parts) (hthermal : .thermal u ∈ b.flight.parts) (hgrade : .grade u ∈ b.flight.parts)
    (hannunciate : .annunciate u ∈ b.flight.parts) : b.chainAt u b where
  slot := by rw [if_pos hcurrent, if_pos hthermal, if_pos hgrade, if_pos hannunciate]
  handed := by rw [if_pos (.inl hthermal), Flight.handedTo, hhanded]; rfl
  change := by rw [if_pos (.inl hgrade), Flight.changeOf, hchanges]; rfl

section
variable {b x : State} {u : Fin 8} (hrdy : Bool)

/-- The first part of a slot's chain is taken (R43). -/
theorem State.chainAt.formed (h : b.chainAt u x) (hdefined : x.isDefined u = true) (happlied : x.applied = b.applied)
    (hchannels : x.cond.channels = b.cond.channels) (hc : .current u ∈ x.flight.parts) (ht : .thermal u ∈ x.flight.parts)
    (hg : .grade u ∈ x.flight.parts) (ha : .annunciate u ∈ x.flight.parts) :
    b.chainAt u ((x.without (.current u)).runPart hrdy (.current u)) := by
  obtain ⟨slot, handed, change⟩ := h
  rw [if_pos hc, if_pos ht, if_pos hg, if_pos ha] at slot
  rw [if_pos (.inl ht)] at handed
  rw [if_pos (.inl hg)] at change
  have hslot : ((x.without (.current u)).formCurrent u).slots.get u = { x.slots.get u with
      cur := slotCurrent x.cond.channels (x.applied.transformers.get u).terms } := by
    rw [State.formCurrent_of_defined (s := x.without (.current u)) hdefined]
    exact Table.get_set_self ..
  have hflight : ((x.without (.current u)).runPart hrdy (.current u)).flight = (x.without (.current u)).flight :=
    State.formCurrent_flight ..
  rw [slot, hchannels, happlied] at hslot
  refine ⟨hslot.trans ?_, (congrArg (·.handedTo u) hflight).trans (handed.trans ?_),
    (congrArg (·.changeOf u) hflight).trans (change.trans ?_)⟩
  · simp [State.mem_runPart, ht, hg, ha, State.chainCurrent]
  · simp [State.mem_runPart, ht]
  · simp [State.mem_runPart, hg]

/-- The thermal step is taken on the current that the chain has formed (R57, R64). -/
theorem State.chainAt.stepped (h : b.chainAt u x) (hdefined : x.isDefined u = true) (happlied : x.applied = b.applied)
    (hc : .current u ∉ x.flight.parts) (ht : .thermal u ∈ x.flight.parts) (hg : .grade u ∈ x.flight.parts)
    (ha : .annunciate u ∈ x.flight.parts) : b.chainAt u ((x.without (.thermal u)).runPart hrdy (.thermal u)) := by
  obtain ⟨slot, handed, change⟩ := h
  rw [if_neg hc, if_pos ht, if_pos hg, if_pos ha] at slot
  rw [if_pos (.inl ht)] at handed
  rw [if_pos (.inl hg)] at change
  have hthermal : (x.without (.thermal u)).thermalAfter u = b.chainThermal u := by
    rw [State.thermalAfter, State.without_slots, State.without_applied, slot, happlied]
    rfl
  obtain ⟨hslots, hflight⟩ := State.stepThermal_of_defined (s := x.without (.thermal u)) hdefined
  rw [hthermal, State.without_slots, slot] at hslots hflight
  have hslot := (congrArg (fun slots : Table 8 Slot => slots.get u) hslots).trans (Table.get_set_self ..)
  have hbefore : (x.without (.thermal u)).flight.handedTo u = none := handed
  have hhanded : ((x.without (.thermal u)).stepThermal u).flight.handedTo u = some (b.chainHanded u) := by
    rw [hflight, Flight.handedTo_append, hbefore, if_pos rfl]
    rfl
  have hchange : ((x.without (.thermal u)).stepThermal u).flight.changeOf u = none :=
    (congrArg (fun f : Flight => f.changeOf u) hflight).trans change
  refine ⟨hslot.trans ?_, hhanded.trans ?_, hchange.trans ?_⟩
  · simp [State.mem_runPart, hc, hg, ha]
  · simp [State.mem_runPart, hg]
  · simp [State.mem_runPart, hg]

/-- The grading is taken on the values that the thermal step has handed over (R71, R81). -/
theorem State.chainAt.graded (h : b.chainAt u x) (hdefined : x.isDefined u = true) (happlied : x.applied = b.applied)
    (hc : .current u ∉ x.flight.parts) (ht : .thermal u ∉ x.flight.parts) (hg : .grade u ∈ x.flight.parts)
    (ha : .annunciate u ∈ x.flight.parts) : b.chainAt u ((x.without (.grade u)).runPart hrdy (.grade u)) := by
  obtain ⟨slot, handed, change⟩ := h
  rw [if_neg hc, if_neg ht, if_pos hg, if_pos ha] at slot
  rw [if_neg (not_or.mpr ⟨ht, not_not.mpr hg⟩)] at handed
  rw [if_pos (.inl hg)] at change
  have hgraded : (x.without (.grade u)).gradeAfter u (b.chainHanded u) = b.chainGrade u := by
    rw [State.gradeAfter, State.without_slots, State.without_applied, slot, happlied]
    rfl
  obtain ⟨hslot, hhanded, hchange⟩ := State.gradeSlot_of_handed (s := x.without (.grade u)) hdefined handed change
  rw [hgraded, State.without_slots, slot] at hslot hchange
  refine ⟨hslot.trans ?_, hhanded.trans ?_, hchange.trans ?_⟩
  · simp [State.mem_runPart, hc, ht, ha]
  · simp [State.mem_runPart]
  · simp [State.mem_runPart, ha, State.chainChange]

/-- The Annunciator takes the change that the grading has handed on, if any (R85). -/
theorem State.chainAt.heard (h : b.chainAt u x) (hdefined : x.isDefined u = true) (happlied : x.applied = b.applied)
    (hc : .current u ∉ x.flight.parts) (ht : .thermal u ∉ x.flight.parts) (hg : .grade u ∉ x.flight.parts)
    (ha : .annunciate u ∈ x.flight.parts) : b.chainAt u ((x.without (.annunciate u)).runPart hrdy (.annunciate u)) := by
  obtain ⟨slot, handed, change⟩ := h
  rw [if_neg hc, if_neg ht, if_neg hg, if_pos ha] at slot
  rw [if_pos (.inr hg)] at handed
  rw [if_neg (not_or.mpr ⟨hg, not_not.mpr ha⟩)] at change
  have hflight := State.hearChange_flight (x.without (.annunciate u)) u
  have hslot : ((x.without (.annunciate u)).hearChange u).slots.get u =
      { x.slots.get u with signal := b.chainSignal u } := by
    rw [State.chainSignal]
    by_cases hsame : (b.chainGrade u).level = (b.slots.get u).grade.level
    · have hnone : (x.without (.annunciate u)).flight.changeOf u = none := change.trans (if_pos hsame)
      rw [State.hearChange_of_none hnone, if_pos hsame, slot]
      exact slot
    · have hsome : (x.without (.annunciate u)).flight.changeOf u =
          some { slot := u, old := (b.slots.get u).grade.level, new := (b.chainGrade u).level } :=
        change.trans (if_neg hsame)
      rw [State.hearChange_of_some hsome hdefined, State.annunciate_slots, Table.get_set_self, if_neg hsame, slot]
      show ({ x.slots.get u with signal := ((x.slots.get u).signal.levelChange x.applied.general.annunciateAt _ _).1 } :
        Slot) = _
      rw [slot, happlied]
  have hhanded : ((x.without (.annunciate u)).hearChange u).flight.handedTo u = none :=
    (Flight.handedTo_congr (congrArg Flight.handed hflight) u).trans handed
  have hchange : ((x.without (.annunciate u)).hearChange u).flight.changeOf u = none := by
    rw [hflight, Flight.changeOf_none_iff]
    simp
  rw [slot] at hslot
  refine ⟨hslot.trans ?_, hhanded.trans ?_, hchange.trans ?_⟩ <;> simp [State.mem_runPart, hc, ht, hg]

end

/-- Every part keeps the chain of a defined slot to its order. -/
theorem State.chainAt.runPart {b x : State} {u : Fin 8} (h : b.chainAt u x) (hturn : b.inTurn x)
    (hdefined : b.isDefined u = true) (hseal : b.store.isSealed = false) (hstore : x.store = b.store)
    (hchannels : x.cond.channels = b.cond.channels) (hthermal : .thermal u ∈ b.flight.parts)
    (hgrade : .grade u ∈ b.flight.parts) (hannunciate : .annunciate u ∈ b.flight.parts) {p : CompletionPart}
    (hwaits : waitsAs p ∈ x.flight.parts) (hfree : ∀ q ∈ mustFollow p, q ∉ x.flight.parts) (hrdy : Bool) :
    b.chainAt u ((x.without p).runPart hrdy p) := by
  have hthen : .current u ∈ x.flight.parts → .thermal u ∈ x.flight.parts :=
    hturn _ hthermal (.current u) (by simp [mustFollow])
  have hthen' : .thermal u ∈ x.flight.parts → .grade u ∈ x.flight.parts :=
    hturn _ hgrade (.thermal u) (by simp [mustFollow])
  have hthen'' : .grade u ∈ x.flight.parts → .annunciate u ∈ x.flight.parts :=
    hturn _ hannunciate (.grade u) (by simp [mustFollow])
  have happlied : x.applied = b.applied := congrArg Store.applied hstore
  have hx : x.isDefined u = true := by
    rw [State.isDefined, hstore]
    exact hdefined
  by_cases hown : p = .current u ∨ p = .thermal u ∨ p = .grade u ∨ p = .annunciate u
  · rcases hown with rfl | rfl | rfl | rfl
    · have ht := hthen hwaits
      have hg := hthen' ht
      exact h.formed hrdy hx happlied hchannels hwaits ht hg (hthen'' hg)
    · have hg := hthen' hwaits
      exact h.stepped hrdy hx happlied (hfree _ (by simp [mustFollow])) hwaits hg (hthen'' hg)
    · have ht : .thermal u ∉ x.flight.parts := hfree _ (by simp [mustFollow])
      exact h.graded hrdy hx happlied (fun h => ht (hthen h)) ht hwaits (hthen'' hwaits)
    · have hg : .grade u ∉ x.flight.parts := hfree _ (by simp [mustFollow])
      have ht : .thermal u ∉ x.flight.parts := fun h => hg (hthen' h)
      exact h.heard hrdy hx happlied (fun h => ht (hthen h)) ht hg hwaits
  · rw [not_or, not_or, not_or] at hown
    obtain ⟨hc, ht, hg, ha⟩ := hown
    obtain ⟨slot, handed, change⟩ := h
    obtain ⟨hslot, hhanded, hchange⟩ := State.runPart_otherSlot hrdy (s := x.without p) (hstore ▸ hseal) hc ht hg ha
    refine ⟨hslot.trans (slot.trans ?_), hhanded.trans (handed.trans ?_), hchange.trans (change.trans ?_)⟩
    all_goals simp only [State.mem_runPart, ne_eq, Ne.symm hc, Ne.symm ht, Ne.symm hg, Ne.symm ha, not_false_eq_true, and_true]

end Sys2Proof.Machine

namespace Sys2Proof.Machine

/-! ## The self-check across an epoch completion (R35, R36) -/

/-- Since `b` nothing but a cycle start has reached the Conditioner's own records, and it the scheduled check alone. -/
structure State.checked (b x : State) : Prop where
  cond : x.cond = { b.cond with selfCheck := x.cond.selfCheck }
  waits : .start ∈ x.flight.parts ∨ .start ∉ b.flight.parts → x.cond.selfCheck = b.cond.selfCheck
  started : .start ∈ b.flight.parts → .start ∉ x.flight.parts → .count ∈ b.flight.parts ∨ b.flight.given ≠ none →
    x.cond.selfCheck = if b.cond.selfCheck = .scheduled then .running else b.cond.selfCheck

theorem State.checked_refl (b : State) : b.checked b := ⟨rfl, fun _ => rfl, fun h h' => absurd h h'⟩

theorem State.checked.runPart {b x : State} {check : Bool} (h : b.checked x) (hcycled : b.cycled check x)
    (hway : b.underWay x) (hentries : .entries ∉ b.flight.parts) (hseal : b.store.isSealed = false) {p : CompletionPart}
    (hwaits : waitsAs p ∈ x.flight.parts) (hfree : ∀ q ∈ mustFollow p, q ∉ x.flight.parts) (hrdy : Bool) :
    b.checked ((x.without p).runPart hrdy p) := by
  obtain ⟨cond, waits, started⟩ := h
  by_cases hstart : p = .start
  · subst hstart
    have hb : .start ∈ b.flight.parts := hway.parts _ hwaits
    have hgone : .start ∉ ((x.without .start).runPart hrdy .start).flight.parts :=
      fun h => (State.mem_runPart.mp h).2 rfl
    have hgiven : (x.without .start).flight.given = b.startFor x := hcycled.given hwaits (hfree _ (by simp [mustFollow]))
    have hself : (x.without .start).cond.selfCheck = b.cond.selfCheck := waits (.inl hwaits)
    show b.checked (x.without .start).startNext
    cases hsome : (x.without .start).flight.given with
    | none =>
      have hsame : (x.without .start).startNext.cond = x.cond := by
        rw [State.startNext_of_none _ hsome]
        rfl
      rw [hsome, State.startFor] at hgiven
      refine ⟨by rw [hsame]; exact cond, fun h => absurd h (not_or.mpr ⟨hgone, not_not.mpr hb⟩), fun _ _ h => ?_⟩
      split at hgiven
      · exact absurd hgiven nofun
      · next hcount => exact absurd hgiven.symm (h.resolve_left hcount)
    | some g =>
      have hcond := State.startNext_cond hsome
      rw [hself, State.without_cond, cond] at hcond
      refine ⟨by rw [hcond], fun h => absurd h (not_or.mpr ⟨hgone, not_not.mpr hb⟩), fun _ _ _ => by rw [hcond]⟩
  · have hsame : ((x.without p).runPart hrdy p).cond = x.cond := by
      by_cases hset : p = .settings
      · subst hset
        have hunsealed : (x.without .settings).store.isSealed = false := by
          rw [State.without_store, hway.store]
          exact hseal
        rw [State.runPart, State.takeEpoch_of_unsealed hunsealed]
        rfl
      · exact State.runPart_cond hrdy (x.without p) (fun h => hentries (hway.parts _ (h ▸ hwaits))) hstart hset
    have hstays : .start ∈ ((x.without p).runPart hrdy p).flight.parts ↔ .start ∈ x.flight.parts :=
      State.mem_runPart.trans (and_iff_left (Ne.symm hstart))
    refine ⟨by rw [hsame]; exact cond, fun h => ?_, fun hb h hgives => ?_⟩ <;> rw [hsame]
    · exact waits (h.imp_left hstays.mp)
    · exact started hb (hstays.not.mp h) hgives

/-- R35: what the automatic self-check makes of the check in hand. -/
theorem Conditioner.autoCheck_selfCheck (interval : Nat) (c : Conditioner) : (c.autoCheck interval).selfCheck =
    if (decide (c.selfCheck = .scheduled) ||
      (decide (c.selfCheck ≠ .running) && decide (interval ≠ 0 ∧ interval ≤ min 3600 (c.autoCount + 1)))) = true
    then .scheduled else c.selfCheck := by
  cases hcheck : c.selfCheck with
  | scheduled | running =>
    rw [Conditioner.autoCheck_of_inHand (by simp [hcheck]), hcheck]
    rfl
  | none | pass | fail =>
    rw [Conditioner.autoCheck_of_none (by simp [hcheck])]
    by_cases hdue : interval ≠ 0 ∧ interval ≤ min 3600 (c.autoCount + 1)
    · rw [if_pos hdue, decide_eq_true hdue]
      rfl
    · rw [if_neg hdue, decide_eq_false hdue]
      exact hcheck

/-- Whether a check is scheduled once the epoch completion has been raised: before it, or by it (R35). -/
def State.epochCheck (s : State) : Bool :=
  decide (s.cond.selfCheck = .scheduled) || (decide (s.cond.selfCheck ≠ .running) &&
    decide (s.store.applied.general.checkInterval ≠ 0 ∧
      s.store.applied.general.checkInterval ≤ min 3600 (s.cond.autoCount + 1)))

theorem State.raiseEpoch_selfCheck (s : State) :
    s.raiseEpoch.cond.selfCheck = if s.epochCheck then .scheduled else s.cond.selfCheck :=
  Conditioner.autoCheck_selfCheck s.store.applied.general.checkInterval { s.cond with
    epochCycles := 0
    channels := .ofFn fun i => (s.cond.channels.get i).closeEpoch (s.applied.channels.get i) }

theorem State.raiseEpoch_scheduled (s : State) : decide (s.raiseEpoch.cond.selfCheck = .scheduled) = s.epochCheck := by
  rw [State.raiseEpoch_selfCheck]
  cases hcheck : s.epochCheck with
  | true => rfl
  | false =>
    have hnot : decide (s.cond.selfCheck = .scheduled) = false := (Bool.or_eq_false_iff.mp hcheck).1
    exact hnot

theorem State.raiseEpoch_epochCycles (s : State) : s.raiseEpoch.cond.epochCycles = 0 := by
  have hcycles (n : Nat) (c : Conditioner) : (c.autoCheck n).epochCycles = c.epochCycles := by
    rw [Conditioner.autoCheck_eq]
  exact hcycles _ _

theorem State.countedBy_of_raiseEpoch {s t : State} (h : s.raiseEpoch.countedBy t) : s.nextEpoch.countedBy t := by
  rw [State.countedBy, State.told, State.raiseEpoch_epochNumber] at h
  exact h

/-! ## A whole epoch completion without a sealed set (R25) -/

/-- What holds from an epoch completion on, raised in `b` without a sealed set, while its parts are taken. -/
structure State.epochTaken (b x : State) : Prop where
  way : b.underWay x
  turn : b.inTurn x
  cycled : b.cycled (decide (b.cond.selfCheck = .scheduled)) x
  checked : b.checked x
  chains : ∀ u, b.isDefined u = true → b.chainAt u x
  others : ∀ u, b.isDefined u = false → x.slots.get u = b.slots.get u

/-- An epoch completion that is raised without a sealed set, its whole chain waiting. -/
structure State.epochBegins (b : State) : Prop where
  unsealed : b.store.isSealed = false
  entries : .entries ∉ b.flight.parts
  handed : b.flight.handed = []
  changes : b.flight.changes = []
  current : ∀ u, .current u ∈ b.flight.parts
  thermal : ∀ u, .thermal u ∈ b.flight.parts
  grade : ∀ u, .grade u ∈ b.flight.parts
  annunciate : ∀ u, .annunciate u ∈ b.flight.parts

theorem State.epochBegins.taken {b : State} (h : b.epochBegins) : b.epochTaken b :=
  ⟨b.underWay_refl, b.inTurn_refl, b.cycled_refl _, b.checked_refl,
    fun u _ => State.chainAt_refl h.handed h.changes (h.current u) (h.thermal u) (h.grade u) (h.annunciate u), fun _ _ => rfl⟩

theorem State.epochTaken.runPart {b x : State} (hb : b.epochBegins) (h : b.epochTaken x) {p : CompletionPart}
    (hwaits : waitsAs p ∈ x.flight.parts) (hfree : ∀ q ∈ mustFollow p, q ∉ x.flight.parts) (hrdy : Bool) :
    b.epochTaken ((x.without p).runPart hrdy p) := by
  obtain ⟨hseal, hentries, -, -, -, hthermal, hgrade, hannunciate⟩ := hb
  obtain ⟨hway, hturn, hcycled, hchecked, hchains, hothers⟩ := h
  have hchannels : x.cond.channels = b.cond.channels := by rw [hchecked.cond]
  have hunsealed : (x.without p).store.isSealed = false := by
    rw [State.without_store, hway.store]
    exact hseal
  refine ⟨hway.runPart (.inr hseal) hrdy, hturn.runPart hfree hrdy, hcycled.runPart hway hwaits hfree (fun hstart => ?_) hrdy,
    hchecked.runPart hcycled hway hentries hseal hwaits hfree hrdy, fun u hu => ?_, fun u hu => ?_⟩
  · subst hstart
    rw [hchecked.waits (.inl hwaits)]
  · exact (hchains u hu).runPart hturn hu hseal hway.store hchannels (hthermal u) (hgrade u) (hannunciate u) hwaits hfree hrdy
  · rw [← hothers u hu]
    by_cases hset : p = .settings
    · subst hset
      rw [State.runPart, State.takeEpoch_of_unsealed hunsealed]
      rfl
    · rcases (x.without p).runPart_slots_cases hrdy hset with e | ⟨v, y, hv, -, e⟩ <;> rw [e]
      · rfl
      · refine Table.get_set_ne _ _ fun huv : u = v => ?_
        subst huv
        rw [State.without_isDefined, State.isDefined, hway.store] at hv
        exact Bool.noConfusion (hu.symm.trans hv)

theorem State.epochBegins_raiseEpoch {s : State} (h : s.epochCompletes) (hseal : s.store.isSealed = false) :
    s.raiseEpoch.epochBegins := by
  have ⟨_, _, _, hhanded, hchanges, hparts⟩ := h
  have hin (u : Fin 8) : .current u ∈ epochParts ∧ .thermal u ∈ epochParts ∧ .grade u ∈ epochParts ∧
      .annunciate u ∈ epochParts := by
    revert u
    decide
  refine ⟨hseal, (State.raiseEpoch_channelsStand h hseal).2, hhanded, hchanges, fun u => List.mem_append_right _ (hin u).1,
    fun u => List.mem_append_right _ (hin u).2.1, fun u => List.mem_append_right _ (hin u).2.2.1,
    fun u => List.mem_append_right _ (hin u).2.2.2⟩

/-- Settles O16: every part is taken once and in turn, each chain on what the raised epoch completion gives. -/
theorem epochCompletionRunsEveryChainOnce : Obligations.EpochCompletionRunsEveryChainOnce := by
  unfold Obligations.EpochCompletionRunsEveryChainOnce
  intro s order hrdy hcompletes hseal
  have ⟨_, _, _, _, _, hwaiting⟩ := hcompletes
  have hbegins := State.epochBegins_raiseEpoch hcompletes hseal
  obtain ⟨ps, hexec, hparts⟩ := exec_epochCompletion_whole hcompletes order hrdy
  obtain ⟨hway, hturn, hcycled, hchecked, hchains, hothers⟩ := State.takeParts_keeps (P := s.raiseEpoch.epochTaken)
    (fun x p hx hwaits hfree => hx.runPart hbegins hwaits hfree hrdy) ps s.raiseEpoch hbegins.taken
  have hchannels := epochCompletion_channel hcompletes hseal hexec
  have hlink (hhold : s.capture.holdPending = false) : s.raiseEpoch.linkStands (s.raiseEpoch.takeParts hrdy ps) :=
    State.takeParts_keeps (P := s.raiseEpoch.linkStands) (fun x p hx _ _ => hx.runPart hrdy p) ps s.raiseEpoch ⟨hhold, rfl⟩
  have hnone (q : CompletionPart) : q ∉ (s.raiseEpoch.takeParts hrdy ps).flight.parts := by simp [hparts]
  have hin {q : CompletionPart} (hq : q ∈ s.flight.parts) : q ∈ s.raiseEpoch.flight.parts := List.mem_append_left _ hq
  have hout {q : CompletionPart} (hq : q ∉ epochParts) (h : q ∉ s.flight.parts) : q ∉ s.raiseEpoch.flight.parts :=
    fun hmem => (List.mem_append.mp hmem).elim h hq
  generalize s.raiseEpoch.takeParts hrdy ps = t at *
  refine ⟨t, hexec, hway.pending, hway.time, hway.store, fun hcount => ?_, fun hcount => ?_, fun hstart => ?_, fun hstart => ?_,
    fun hhold => ?_, hway.tells.front, hparts, ?_, hway.epoch.trans s.raiseEpoch_epochNumber, hchannels, fun u => ?_⟩
  · exact State.countedBy_of_raiseEpoch (hcycled.moved (hin hcount) (hnone _))
  · exact hcycled.still (.inr (hout (by decide) hcount))
  · exact hcycled.waits (.inr (hout (by decide) hstart))
  · rw [State.raiseEpoch_scheduled] at hcycled
    have hopened := hcycled.opened (hin hstart) (hnone _)
    refine ⟨fun hcount => ?_, fun hcount g hgiven => ?_, fun hgives => ?_⟩
    · obtain ⟨hperiod, hdegraded⟩ := State.givesPeriod_cycleStart t
      have hstarted := hopened _ (if_pos (hin hcount))
      rw [hdegraded] at hstarted
      exact ⟨_, hperiod, hstarted⟩
    · exact hopened g ((if_neg (hout (by decide) hcount)).trans hgiven)
    · have hself := hchecked.started (hin hstart) (hnone _) (hgives.imp hin id)
      refine hself.trans ?_
      show _ = if s.epochCheck then .running else s.cond.selfCheck
      have hscheduled := s.raiseEpoch_scheduled
      cases hcheck : s.epochCheck with
      | true => exact if_pos (of_decide_eq_true (hscheduled.trans hcheck))
      | false =>
        refine (if_neg (of_decide_eq_false (hscheduled.trans hcheck))).trans ?_
        rw [State.raiseEpoch_selfCheck, hcheck]
        rfl
  · exact (hlink hhold).link
  · rw [hchecked.cond]
    exact s.raiseEpoch_epochCycles
  · refine ⟨fun hu => hothers u hu, fun hu => ?_⟩
    obtain ⟨hslot, -, -⟩ := hchains u hu
    rw [if_neg (hnone _), if_neg (hnone _), if_neg (hnone _), if_neg (hnone _)] at hslot
    have hresults : t.cond.channels = s.raiseEpoch.cond.channels := by rw [hchecked.cond]
    rw [hresults]
    exact hslot

end Sys2Proof.Machine
